-- ==== Sys2Proof/Word.lean ====
section
/-!
DEFINITION. The block's word types (spec/00_scope.md R11, R15; spec/10_state.md R32).
-/

namespace Sys2Proof

/-- One byte of the input buffer (R42). -/
abbrev Byte := BitVec 8

/-- A data or header word (R15). A word of a 16-bit kind is held zero-extended (R71: all fields are unsigned). -/
abbrev Word := BitVec 32

/-- A register id: "a natural number taken from a header's register field" (R32). -/
abbrev RegId := Nat

end Sys2Proof
end

