-- ==== Sys2Proof/Config.lean ====
section
/-!
DEFINITION. What `Start` fixes for a session: the device kind and the parameters of spec/00_scope.md R9, as plain data.
The default tables and the values a kind decides stand in Machine/Profile.lean.
-/

namespace Sys2Proof

/-- The closed set of device families (R3). -/
inductive DeviceKind where
  | virtexOriginal
  | virtexII
  | virtexIVPlus
  | spartan3A
  | spartan6
deriving DecidableEq, Repr

/-- The two checksum algorithms (R76). -/
inductive ChecksumAlgorithm where
  | lfsr
  | rotate
deriving DecidableEq, Repr

/-- The semantic register tags of the register tables (R15, R36 to R40). The spec does not say that these are all the names a
passed `REGTABLE` may use; closing the type to the default tables' names is the model's choice (DESIGN CHOICE, log entry 29). -/
inductive Tag where
  | crc | far | farMaj | farMin | fdri | cmd | ctl0 | ctl1 | mask | lout | cor0 | cor1 | cor2 | flr | key | cbc | cbcReg
  | idcode | axss | csob | csbo | wbstar | timer | rbcrcSw | bspi | pwrdn | snowplow | hcOpt
  | general1 | general2 | general3 | general4 | general5 | mode | puGwe | puGts | mfwr | cclkFreq | seuOpt
  | expSign | rdbkSign | cwdt | eyeMask
deriving DecidableEq, Repr

/-- A register's expected word count (R15, R32): 1, 2 or variable. -/
inductive Card where
  | one
  | two
  | var
deriving DecidableEq, Repr

/-- The nineteen commands of the command tables (R146). The spec does not say that the list is complete for a passed
`CMDTABLE`; closing the type to the default tables' names is the model's choice (DESIGN CHOICE, log entry 29). -/
inductive Command where
  | null | wcfg | mfwr | lfrm | rcfg | start | rcap | rcrc | aghigh | switch | grestore | shutdown | gcapture | desynch
  | iprog | crcc | ltimer | bspiRead | fallEdge
deriving DecidableEq, Repr

/-- Where a 16-bit long write takes its register id (R9 `LW16_REG_SOURCE`, R172). -/
inductive Lw16RegSource where
  | lastRegister
  | headerField
deriving DecidableEq, Repr

/-- One entry of a register table: id, tag and cardinality (R32). -/
structure RegEntry where
  id : RegId
  tag : Tag
  card : Card
deriving DecidableEq, Repr

/-- One entry of a command table: code and command (R146). The whole data word is the code (R145). -/
structure CmdEntry where
  code : Word
  command : Command
deriving DecidableEq, Repr

/-- A value for each device kind, as plain data: the parameters of R9 that are functions of the kind. -/
structure PerKind (α : Type) where
  virtexOriginal : α
  virtexII : α
  virtexIVPlus : α
  spartan3A : α
  spartan6 : α
deriving DecidableEq, Repr

/-- The parameters of R9 that a session is started with. They are configuration, never changed by a step (R10). -/
structure Config where
  /-- `REGTABLE` (R32, R36 to R40); the first entry of an id counts (log entry 20). -/
  regTable : PerKind (List RegEntry)
  /-- `CMDTABLE` (R145, R146). -/
  cmdTable : PerKind (List CmdEntry)
  /-- `DEBUG_EXEMPT` (R82), an OPEN parameter. -/
  debugExempt : PerKind (List RegId)
  /-- `BUGFDRI_KINDS` (R174). -/
  bugFdriKinds : List DeviceKind
  /-- `AUTOCRC_KINDS` (R173), an OPEN parameter. -/
  autoCrcKinds : List DeviceKind
  /-- `WIDTH_DETECT_KINDS` (R92). -/
  widthDetectKinds : List DeviceKind
  /-- `SYNC16_VERIFY` (R94). -/
  sync16Verify : PerKind Bool
  /-- `LW16_REG_SOURCE` (R172). -/
  lw16RegSource : Lw16RegSource
deriving DecidableEq, Repr

/-- FREE VALUE: the value of a Crc write whose word count R99 gives no `Value` for (a Crc entry of variable length, with no
word or more than two), by word size and words (log entry 27). -/
opaque unstatedCrcValue : Nat → List Word → BitVec 32

/-- FREE VALUE: the register id that a BugFdri run feeds with where a passed table has no entry with the tag Fdri, or several
of different ids (R174, R41), by kind and table; an id of the 32-bit kinds has 14 bits (R32; log entry 28). -/
opaque unstatedFdriId : DeviceKind → List RegEntry → BitVec 14

end Sys2Proof
end

