-- ==== Sys2Proof/Machine/Memory.lean ====
section
/-!
DEFINITION. The input buffer (spec/20_memory.md R42): `len` bytes at the offsets 0 to `len - 1`, held as a length and a list
of (address, byte) cells in one canonical form. The block only reads it (R42); the writing operations stand for the host's
load of the buffer before `Start` (spec/70_reset_and_hazards.md R208).
-/

namespace Sys2Proof.Machine

/-- The input buffer: its length and its cells. -/
structure Memory where
  len : Nat
  cells : List Host.Cell
deriving DecidableEq, Repr

/-- What an offset below `len` reads as when no cell lists it (DESIGN CHOICE, log entry 5: how a byte is written down, not
what the hardware holds). -/
def unlistedByte : Byte := 0

/-- The byte a cell list gives an address. -/
def cellAt : List Host.Cell → Nat → Byte
  | [], _ => unlistedByte
  | (a, b) :: rest, x => if a = x then b else cellAt rest x

/-- `buf[a]` for an offset that a guard has found below `len` (R50). -/
def Memory.get (m : Memory) (a : Nat) : Byte := cellAt m.cells a

/-- One byte of the buffer; there is none at an offset `>= len` (R42, R50). -/
def Memory.byte (m : Memory) (a : Nat) : Option Byte := if a < m.len then some (m.get a) else none

/-- The cells are in canonical form: addresses strictly rising from `lo`, below `hi`, no unlisted value listed. -/
def cellsOk : Nat → Nat → List Host.Cell → Bool
  | _, _, [] => true
  | lo, hi, (a, b) :: rest => decide (lo ≤ a) && decide (a < hi) && !(b == unlistedByte) && cellsOk (a + 1) hi rest

/-- The canonical form of a buffer. -/
def Memory.wf (m : Memory) : Bool := cellsOk 0 m.len m.cells

/-- The buffer of length 0. -/
def Memory.empty : Memory := ⟨0, []⟩

/-- The cells of consecutive bytes from an address on. -/
def cellsFrom : Nat → List Byte → List Host.Cell
  | _, [] => []
  | a, b :: rest => if b = unlistedByte then cellsFrom (a + 1) rest else (a, b) :: cellsFrom (a + 1) rest

/-- The buffer that holds exactly these bytes (R208: the host's load). -/
def Memory.ofBytes (bs : List Byte) : Memory := ⟨bs.length, cellsFrom 0 bs⟩

/-- A cell list with the byte at one address replaced, in canonical form. -/
def setCell : List Host.Cell → Nat → Byte → List Host.Cell
  | [], x, v => if v = unlistedByte then [] else [(x, v)]
  | (a, b) :: rest, x, v =>
    if a < x then (a, b) :: setCell rest x v
    else if a = x then (if v = unlistedByte then rest else (x, v) :: rest)
    else if v = unlistedByte then (a, b) :: rest else (x, v) :: (a, b) :: rest

/-- The host's write of one byte; the buffer grows to hold the address. -/
def Memory.set (m : Memory) (a : Nat) (v : Byte) : Memory := ⟨max m.len (a + 1), setCell m.cells a v⟩

/-- The host's write of consecutive bytes from an address on. -/
def Memory.place (m : Memory) : Nat → List Byte → Memory
  | _, [] => m
  | a, b :: rest => (m.set a b).place (a + 1) rest

/-- A byte sequence read as one big-endian number, first byte most significant (R12, R45). -/
def beValue (bs : List Byte) : Nat := bs.foldl (fun v b => v * 256 + b.toNat) 0

/-- The bytes `buf[a] .. buf[a+n-1]` (R12 `Window`). -/
def Memory.slice (m : Memory) (a n : Nat) : List Byte := (List.range n).map fun i => m.get (a + i)

/-- `MemRead(a, n)` for `n <= 4`, in a 32-bit container (R12, R45). -/
def Memory.read (m : Memory) (a n : Nat) : Word := BitVec.ofNat 32 (beValue (m.slice a n))

end Sys2Proof.Machine
end

