-- ==== Sys2Proof/Machine/Profile.lean ====
section
/-!
DEFINITION. The Device Profile: everything the device kind decides (spec/10_state.md R27 to R31), the default register
and command tables (R36 to R40, R146) and the look-ups in a session's tables. Pure data and functions (R10).
-/

namespace Sys2Proof

/-- The value of a per-kind parameter for one kind. -/
def PerKind.get {α : Type} (p : PerKind α) : DeviceKind → α
  | .virtexOriginal => p.virtexOriginal
  | .virtexII => p.virtexII
  | .virtexIVPlus => p.virtexIVPlus
  | .spartan3A => p.spartan3A
  | .spartan6 => p.spartan6

/-- `WB(kind)`: the word size in bytes (R9, R27). -/
def DeviceKind.wordBytes : DeviceKind → Nat
  | .virtexOriginal => 4
  | .virtexII => 4
  | .virtexIVPlus => 4
  | .spartan3A => 2
  | .spartan6 => 2

/-- `W(kind)`: the word width in bits (R9, R27). -/
def DeviceKind.width (k : DeviceKind) : Nat := 8 * k.wordBytes

/-- `CK(kind)`: the checksum algorithm (R9, R29, R76). -/
def DeviceKind.algorithm : DeviceKind → ChecksumAlgorithm
  | .virtexOriginal => .lfsr
  | .virtexII => .lfsr
  | .virtexIVPlus => .lfsr
  | .spartan3A => .rotate
  | .spartan6 => .rotate

/-- `ACCW(kind)`: the accumulator width in bits (R9, R29). -/
def DeviceKind.accWidth : DeviceKind → Nat
  | .virtexOriginal => 16
  | .virtexII => 16
  | .virtexIVPlus => 32
  | .spartan3A => 23
  | .spartan6 => 23

/-- `RFW(kind)`: the register-field width fed to the checksum (R9, R29; conflict C1 gives VirtexII 5). -/
def DeviceKind.regFieldWidth : DeviceKind → Nat
  | .virtexOriginal => 4
  | .virtexII => 5
  | .virtexIVPlus => 5
  | .spartan3A => 6
  | .spartan6 => 6

/-- The LFSR polynomial of the two oldest families (R29, R78). -/
def poly16 : BitVec 16 := 0xA001

/-- The LFSR polynomial of Virtex-4-plus (R29, R78). -/
def poly32 : BitVec 32 := 0x82F63B78

/-- The constant of the Rotate variant (R29, R79). -/
def rotateConstant : BitVec 23 := 0x409081

/-- Default `REGTABLE(VirtexOriginal)` (R36). -/
def regTableVirtexOriginal : List RegEntry :=
  [ ⟨0, .crc, .one⟩
  , ⟨1, .far, .one⟩
  , ⟨2, .fdri, .var⟩
  , ⟨4, .cmd, .one⟩
  , ⟨5, .ctl0, .one⟩
  , ⟨6, .mask, .one⟩
  , ⟨8, .lout, .one⟩
  , ⟨9, .cor0, .one⟩
  , ⟨11, .flr, .one⟩ ]

/-- Default `REGTABLE(VirtexII)` (R37). -/
def regTableVirtexII : List RegEntry :=
  [ ⟨0, .crc, .one⟩
  , ⟨1, .far, .one⟩
  , ⟨2, .fdri, .var⟩
  , ⟨4, .cmd, .one⟩
  , ⟨5, .ctl0, .one⟩
  , ⟨6, .mask, .one⟩
  , ⟨8, .lout, .one⟩
  , ⟨9, .cor0, .one⟩
  , ⟨10, .mfwr, .var⟩
  , ⟨11, .flr, .one⟩
  , ⟨12, .key, .one⟩
  , ⟨13, .cbc, .var⟩
  , ⟨14, .idcode, .one⟩ ]

/-- Default `REGTABLE(VirtexIVPlus)` (R38). -/
def regTableVirtexIVPlus : List RegEntry :=
  [ ⟨0, .crc, .one⟩
  , ⟨1, .far, .one⟩
  , ⟨2, .fdri, .var⟩
  , ⟨4, .cmd, .one⟩
  , ⟨5, .ctl0, .one⟩
  , ⟨6, .mask, .one⟩
  , ⟨8, .lout, .one⟩
  , ⟨9, .cor0, .one⟩
  , ⟨10, .mfwr, .var⟩
  , ⟨11, .cbc, .var⟩
  , ⟨12, .idcode, .one⟩
  , ⟨13, .axss, .one⟩
  , ⟨14, .cor1, .one⟩
  , ⟨15, .csob, .one⟩
  , ⟨16, .wbstar, .one⟩
  , ⟨17, .timer, .one⟩
  , ⟨19, .rbcrcSw, .one⟩
  , ⟨24, .ctl1, .one⟩
  , ⟨31, .bspi, .one⟩ ]

/-- Default `REGTABLE(Spartan3A)` (R39). -/
def regTableSpartan3A : List RegEntry :=
  [ ⟨0, .crc, .two⟩
  , ⟨1, .farMaj, .one⟩
  , ⟨2, .farMin, .one⟩
  , ⟨3, .fdri, .var⟩
  , ⟨5, .cmd, .one⟩
  , ⟨6, .ctl0, .one⟩
  , ⟨7, .mask, .one⟩
  , ⟨9, .lout, .one⟩
  , ⟨10, .cor1, .one⟩
  , ⟨11, .cor2, .one⟩
  , ⟨12, .pwrdn, .one⟩
  , ⟨13, .flr, .one⟩
  , ⟨14, .idcode, .two⟩
  , ⟨15, .snowplow, .one⟩
  , ⟨16, .hcOpt, .one⟩
  , ⟨18, .csbo, .one⟩
  , ⟨19, .general1, .one⟩
  , ⟨20, .general2, .one⟩
  , ⟨21, .mode, .one⟩
  , ⟨22, .puGwe, .one⟩
  , ⟨23, .puGts, .one⟩
  , ⟨24, .mfwr, .var⟩
  , ⟨25, .cclkFreq, .one⟩
  , ⟨26, .seuOpt, .one⟩
  , ⟨27, .expSign, .one⟩
  , ⟨28, .rdbkSign, .one⟩ ]

/-- Default `REGTABLE(Spartan6)` (R40). -/
def regTableSpartan6 : List RegEntry :=
  [ ⟨0, .crc, .two⟩
  , ⟨1, .farMaj, .one⟩
  , ⟨2, .farMin, .one⟩
  , ⟨3, .fdri, .var⟩
  , ⟨5, .cmd, .one⟩
  , ⟨6, .ctl0, .one⟩
  , ⟨7, .mask, .one⟩
  , ⟨9, .lout, .one⟩
  , ⟨10, .cor1, .one⟩
  , ⟨11, .cor2, .one⟩
  , ⟨12, .pwrdn, .one⟩
  , ⟨13, .flr, .one⟩
  , ⟨14, .idcode, .two⟩
  , ⟨15, .cwdt, .one⟩
  , ⟨16, .hcOpt, .one⟩
  , ⟨18, .csbo, .one⟩
  , ⟨19, .general1, .one⟩
  , ⟨20, .general2, .one⟩
  , ⟨21, .general3, .one⟩
  , ⟨22, .general4, .one⟩
  , ⟨23, .general5, .one⟩
  , ⟨24, .mode, .one⟩
  , ⟨25, .puGwe, .one⟩
  , ⟨26, .puGts, .one⟩
  , ⟨27, .mfwr, .var⟩
  , ⟨28, .cclkFreq, .one⟩
  , ⟨29, .seuOpt, .one⟩
  , ⟨30, .expSign, .one⟩
  , ⟨31, .rdbkSign, .one⟩
  , ⟨33, .eyeMask, .one⟩
  , ⟨34, .cbcReg, .var⟩ ]

/-- Default `CMDTABLE(VirtexOriginal)` (R146). -/
def cmdTableVirtexOriginal : List CmdEntry :=
  [ ⟨0, .null⟩
  , ⟨1, .wcfg⟩
  , ⟨3, .lfrm⟩
  , ⟨4, .rcfg⟩
  , ⟨5, .start⟩
  , ⟨6, .rcap⟩
  , ⟨7, .rcrc⟩
  , ⟨8, .aghigh⟩
  , ⟨9, .switch⟩ ]

/-- Default `CMDTABLE(VirtexII)` (R146). -/
def cmdTableVirtexII : List CmdEntry :=
  [ ⟨0, .null⟩
  , ⟨1, .wcfg⟩
  , ⟨2, .mfwr⟩
  , ⟨3, .lfrm⟩
  , ⟨4, .rcfg⟩
  , ⟨5, .start⟩
  , ⟨6, .rcap⟩
  , ⟨7, .rcrc⟩
  , ⟨8, .aghigh⟩
  , ⟨9, .switch⟩
  , ⟨10, .grestore⟩
  , ⟨11, .shutdown⟩
  , ⟨12, .gcapture⟩
  , ⟨13, .desynch⟩ ]

/-- Default `CMDTABLE(VirtexIVPlus)` (R146). -/
def cmdTableVirtexIVPlus : List CmdEntry :=
  [ ⟨0, .null⟩
  , ⟨1, .wcfg⟩
  , ⟨2, .mfwr⟩
  , ⟨3, .lfrm⟩
  , ⟨4, .rcfg⟩
  , ⟨5, .start⟩
  , ⟨6, .rcap⟩
  , ⟨7, .rcrc⟩
  , ⟨8, .aghigh⟩
  , ⟨9, .switch⟩
  , ⟨10, .grestore⟩
  , ⟨11, .shutdown⟩
  , ⟨12, .gcapture⟩
  , ⟨13, .desynch⟩
  , ⟨15, .iprog⟩
  , ⟨16, .crcc⟩
  , ⟨17, .ltimer⟩
  , ⟨18, .bspiRead⟩
  , ⟨19, .fallEdge⟩ ]

/-- Default `CMDTABLE(Spartan3A)` (R146). -/
def cmdTableSpartan3A : List CmdEntry :=
  [ ⟨0, .null⟩
  , ⟨1, .wcfg⟩
  , ⟨2, .mfwr⟩
  , ⟨3, .lfrm⟩
  , ⟨4, .rcfg⟩
  , ⟨5, .start⟩
  , ⟨7, .rcrc⟩
  , ⟨8, .aghigh⟩
  , ⟨10, .grestore⟩
  , ⟨11, .shutdown⟩
  , ⟨13, .desynch⟩
  , ⟨14, .iprog⟩ ]

/-- Default `CMDTABLE(Spartan6)` (R146). -/
def cmdTableSpartan6 : List CmdEntry :=
  [ ⟨0, .null⟩
  , ⟨1, .wcfg⟩
  , ⟨2, .mfwr⟩
  , ⟨3, .lfrm⟩
  , ⟨4, .rcfg⟩
  , ⟨5, .start⟩
  , ⟨7, .rcrc⟩
  , ⟨8, .aghigh⟩
  , ⟨10, .grestore⟩
  , ⟨11, .shutdown⟩
  , ⟨13, .desynch⟩
  , ⟨14, .iprog⟩ ]

/-- The default register tables of every kind (R36 to R40). -/
def defaultRegTables : PerKind (List RegEntry) :=
  ⟨regTableVirtexOriginal, regTableVirtexII, regTableVirtexIVPlus, regTableSpartan3A, regTableSpartan6⟩

/-- The default command tables of every kind (R146). -/
def defaultCmdTables : PerKind (List CmdEntry) :=
  ⟨cmdTableVirtexOriginal, cmdTableVirtexII, cmdTableVirtexIVPlus, cmdTableSpartan3A, cmdTableSpartan6⟩

/-- The configuration of R9 with its defaults; the two OPEN parameters `DEBUG_EXEMPT` and `AUTOCRC_KINDS` have none and
are arguments (R9). -/
def Config.standard (debugExempt : PerKind (List RegId)) (autoCrcKinds : List DeviceKind) : Config where
  regTable := defaultRegTables
  cmdTable := defaultCmdTables
  debugExempt := debugExempt
  bugFdriKinds := [.virtexII, .virtexIVPlus]
  autoCrcKinds := autoCrcKinds
  widthDetectKinds := [.virtexOriginal, .virtexII, .virtexIVPlus]
  sync16Verify := ⟨false, false, false, true, true⟩
  lw16RegSource := .lastRegister

/-- The first entry of a register table with the given id (R32). -/
def findReg (table : List RegEntry) (id : RegId) : Option RegEntry := table.find? fun e => e.id == id

/-- The first command of a command table with the given code; the whole word is compared (R145). -/
def findCmd (table : List CmdEntry) (code : Word) : Option Command :=
  (table.find? fun e => e.code == code).map CmdEntry.command

/-- `REGTABLE(kind)[id]` of a configuration (R32). -/
def Config.lookupReg (c : Config) (k : DeviceKind) (id : RegId) : Option RegEntry := findReg (c.regTable.get k) id

/-- `CMDTABLE(kind)[code]` of a configuration (R145). -/
def Config.lookupCmd (c : Config) (k : DeviceKind) (code : Word) : Option Command := findCmd (c.cmdTable.get k) code

/-- The configuration-data register: the one entry whose tag is `Fdri` (R41, R174). An entry that an earlier one of its id
shadows is not in the map (DESIGN CHOICE, log entry 20); a passed table with no Fdri entry, or with several of different
ids, has no such one, and the id is left free (DESIGN CHOICE, log entry 28). -/
def Config.fdriEntry (c : Config) (k : DeviceKind) : Option RegEntry :=
  match (c.regTable.get k).filter fun e => e.tag == .fdri && c.lookupReg k e.id == some e with
  | [] => none
  | e :: rest => if rest.all fun x => x == e then some e else none

end Sys2Proof
end

