-- ==== Sys2Proof/Machine/State.lean ====
section
/-!
DEFINITION. The state of a decode session (spec/10_state.md R18 to R26) with the launch parameters of `Start` and the output
stream, its outputs (packets, events, errors), and the state at session start (spec/70_reset_and_hazards.md R206).
-/

namespace Sys2Proof.Machine

/-- The six error kinds (R188). An error is a decoded outcome of the block, not a fault of the model (R194). -/
inductive ErrorKind where
  | truncated
  | unexpectedWord
  | unexpectedWordCount
  | unknownRegister
  | unknownCommand
  | malformedPadding
deriving DecidableEq, Repr

/-- A view of the buffer: offset and length in bytes (R49, R210). -/
structure Window where
  offset : Nat
  length : Nat
deriving DecidableEq, Repr

/-- The value a fixed-cardinality write carries (R99): 16 bits (one word of a 16-bit kind), 32 bits (one word of a 32-bit
kind, two words of a 16-bit kind), 64 bits (two words of a 32-bit kind: in no default table, log entry 19). -/
inductive RegValue where
  | bits16 (v : BitVec 16)
  | bits32 (v : BitVec 32)
  | bits64 (v : BitVec 64)
deriving DecidableEq, Repr

/-- A decoded packet (R14, R98, R168). -/
inductive Packet where
  | dummyWord
  | widthDetect
  | syncWord
  | nop
  /-- A command packet `Cmd<name>` (R145). -/
  | command (c : Command)
  /-- A Crc packet with its value, 32 bits wide in every default table (R103). -/
  | crc (value : RegValue)
  /-- A configuration-data write, Type-1 or long (R104, R168). -/
  | fdri (window : Window)
  /-- A padding write with its word count (R105). -/
  | mfwr (count : Nat)
  /-- Any other variable-length write: tag and window (R106). -/
  | window (tag : Tag) (window : Window)
  /-- Any other fixed-length write: tag and value (R108 to R144). -/
  | value (tag : Tag) (value : RegValue)
  /-- A configuration-data write whose header was elided (R174). -/
  | bugFdri (window : Window)
deriving DecidableEq, Repr

/-- A checksum-verification event `CrcCheck(at, expected, computed, matched)` (R87). `expected` is the value read, with its
width: 32 bits for an auto-checksum word and for a Crc write under every default table (log entry 19 for the others). -/
structure CrcCheck where
  offset : Nat
  expected : RegValue
  computed : BitVec 32
  matched : Bool
deriving DecidableEq, Repr

/-- The result of one `Next` (R177). -/
inductive StepResult where
  /-- `Packet(pkt, at, events)`. -/
  | packet (pkt : Packet) (offset : Nat) (events : List CrcCheck)
  /-- `End`. -/
  | endOfSequence
  /-- `Error(kind, at)`. -/
  | error (kind : ErrorKind) (offset : Nat)
deriving DecidableEq, Repr

/-- Whether the session is still running (R24). -/
inductive Status where
  | running
  | ended
  | failed (kind : ErrorKind) (offset : Nat)
deriving DecidableEq, Repr

/-- The faults of the model: there are none, because every `(kind, cfg, buf, state)` has exactly one step result and an error
is a decoded outcome (R194). -/
inductive Fault where
deriving DecidableEq, Repr

/-- The refusals of the model. -/
inductive Refusal where
  /-- Raised by `exec` for an instruction that has no meaning yet. Safe: nothing is claimed of it. No arm raises it. -/
  | notModelled (mnemonic : String)
deriving DecidableEq, Repr

/-- The state of a session. The first three fields are the arguments of `Start`, configuration that no step changes (R10,
R18; log entry 1); the next five are the spec's `DecoderState` (R18); the last is the output stream (R43, R177; log
entry 3). -/
structure State where
  /-- The device kind (R8). -/
  kind : DeviceKind
  /-- The parameters of R9. -/
  cfg : Config
  /-- The input buffer (R42). -/
  buf : Memory
  /-- The byte offset of the next word (R20). -/
  position : Nat
  /-- The decoder mode: false is Unsynced, true is Synced (R21, R89). -/
  synced : Bool
  /-- The register id of the last committed Type-1 write (R22). -/
  lastRegister : Option RegId
  /-- The accumulator, `ACCW(kind)` bits, zero-extended (R23). -/
  checksum : BitVec 32
  /-- Running, Ended or Failed (R24). -/
  status : Status
  /-- The step results so far, oldest first (R177). -/
  results : List StepResult
deriving DecidableEq, Repr

/-- `Start(kind, cfg, buf)`: the state at session start, field by field (R176, R206). -/
def State.start (kind : DeviceKind) (cfg : Config) (buf : Memory) : State where
  kind := kind
  cfg := cfg
  buf := buf
  position := 0
  synced := false
  lastRegister := none
  checksum := 0
  status := .running
  results := []

/-- The machine right after reset: a session started (R205, R206) with the arguments the model names: kind VirtexII, the
default configuration with both OPEN parameters empty, the empty buffer (DESIGN CHOICE, log entry 2). -/
def State.reset : State := State.start .virtexII (Config.standard ⟨[], [], [], [], []⟩ []) Memory.empty

end Sys2Proof.Machine
end

