-- ==== Sys2Proof/Machine/Flags.lean ====
section
/-!
DEFINITION. The Checksum Engine (spec/40_checksum.md) and the `matched` bit, the block's only computed flag (R25).
-/

namespace Sys2Proof.Machine

/-- One bit of the LFSR update: the incoming bit is XORed into bit 0, the accumulator shifts right, and the polynomial is
XORed in when the bit shifted out was 1 (R77 `LfsrBits`). -/
def lfsrBit {w : Nat} (poly acc : BitVec w) (b : Bool) : BitVec w :=
  let acc := acc ^^^ (BitVec.ofBool b).setWidth w
  if acc.getLsbD 0 then (acc >>> 1) ^^^ poly else acc >>> 1

/-- The low `n` bits of a value, bit 0 first (R77). -/
def bitsLowFirst (v n : Nat) : List Bool := (List.range n).map v.testBit

/-- `LfsrBits(acc, v, n)` (R77). -/
def lfsrBits {w : Nat} (poly acc : BitVec w) (v n : Nat) : BitVec w := (bitsLowFirst v n).foldl (lfsrBit poly) acc

/-- `FeedLfsr(acc, data, reg)`: the 32 data bits, then the `rfw` register-id bits (R77). -/
def feedLfsr {w : Nat} (poly : BitVec w) (rfw : Nat) (acc : BitVec w) (data : Word) (reg : RegId) : BitVec w :=
  lfsrBits poly (lfsrBits poly acc data.toNat 32) reg rfw

/-- `FeedRot(acc, data, reg)` (R79). -/
def feedRotate (acc : BitVec 23) (data : BitVec 16) (reg : RegId) : BitVec 23 :=
  let combined := data.setWidth 23 ||| ((BitVec.ofNat 6 reg).setWidth 23 <<< 16)
  let acc := acc <<< 1
  let acc := if acc.getLsbD 22 then acc ^^^ rotateConstant else acc
  acc ^^^ combined

/-- `Feed(data, reg)`: one update of the accumulator by the kind's variant (R76, R29). -/
def feed (k : DeviceKind) (acc : BitVec 32) (data : Word) (reg : RegId) : BitVec 32 :=
  match k with
  | .virtexOriginal => (feedLfsr poly16 k.regFieldWidth (acc.setWidth 16) data reg).setWidth 32
  | .virtexII => (feedLfsr poly16 k.regFieldWidth (acc.setWidth 16) data reg).setWidth 32
  | .virtexIVPlus => feedLfsr poly32 k.regFieldWidth acc data reg
  | .spartan3A => (feedRotate (acc.setWidth 23) (data.setWidth 16) reg).setWidth 32
  | .spartan6 => (feedRotate (acc.setWidth 23) (data.setWidth 16) reg).setWidth 32

/-- The words of a write fed one at a time in buffer order (R81, R83). -/
def feedAll (k : DeviceKind) (acc : BitVec 32) (words : List Word) (reg : RegId) : BitVec 32 :=
  words.foldl (fun a w => feed k a w reg) acc

/-- The unsigned number a value is (R11). -/
def RegValue.toNat : RegValue → Nat
  | .bits16 v => v.toNat
  | .bits32 v => v.toNat
  | .bits64 v => v.toNat

/-- The event of one comparison: the value read from the buffer against the accumulator before it, as unsigned numbers (R11,
R86, R87). -/
def crcCheck (offset : Nat) (expected : RegValue) (acc : BitVec 32) : CrcCheck where
  offset := offset
  expected := expected
  computed := acc
  matched := expected.toNat == acc.toNat

/-- The accumulator after an auto-checksum comparison: 0 on a match, unchanged on a mismatch (R85, R173). -/
def afterAutoCheck (expected acc : BitVec 32) : BitVec 32 := if expected = acc then 0 else acc

/-- The bound below which every accumulator value of a kind lies: `2^ACCW` (R77), and `2^22` in the Rotate kinds (R80). -/
def checksumBound : DeviceKind → Nat
  | .virtexOriginal => 2 ^ 16
  | .virtexII => 2 ^ 16
  | .virtexIVPlus => 2 ^ 32
  | .spartan3A => 2 ^ 22
  | .spartan6 => 2 ^ 22

end Sys2Proof.Machine
end

