-- ==== Sys2Proof/Machine/Operands.lean ====
section
/-!
DEFINITION. The Word Cursor (spec/20_memory.md R47 to R51) and the operand forms of a packet: words, windows, 32-bit values,
the value of a fixed-cardinality write (spec/42_register_writes.md R99).
-/

namespace Sys2Proof.Machine

/-- `ReadWord(pos, n)`: the big-endian value and the advanced position, or nothing when fewer than `n` bytes remain
(R47). -/
def readWord (m : Memory) (pos n : Nat) : Option (Word × Nat) :=
  if pos + n ≤ m.len then some (m.read pos n, pos + n) else none

/-- `PeekWord(pos, n)`: the value `ReadWord` gives (R48). -/
def peekWord (m : Memory) (pos n : Nat) : Option Word := (readWord m pos n).map Prod.fst

/-- `ReadWindow(pos, nbytes)`; sums of unbounded naturals (R49, R51). -/
def readWindow (m : Memory) (pos nbytes : Nat) : Option (Window × Nat) :=
  if pos + nbytes ≤ m.len then some (⟨pos, nbytes⟩, pos + nbytes) else none

/-- The bytes of a window (R49, R210). -/
def Window.bytes (m : Memory) (w : Window) : List Byte := m.slice w.offset w.length

/-- The `n` words of `wb` bytes from an offset on, in buffer order (R97, R167). -/
def wordsAt (m : Memory) (pos wb n : Nat) : List Word := (List.range n).map fun i => m.read (pos + i * wb) wb

/-- `Value(ws)`: one word, or two words with the first in the high half (R99). For another number of words, which only a Crc
entry of variable length asks for, it is a free value (log entry 27). -/
def valueOf (wb : Nat) : List Word → RegValue
  | [w] => if wb = 2 then .bits16 (w.setWidth 16) else .bits32 w
  | [a, b] => if wb = 2 then .bits32 (a.setWidth 16 ++ b.setWidth 16) else .bits64 (a ++ b)
  | ws => .bits32 (unstatedCrcValue wb ws)

/-- How many consecutive zero words of 4 bytes stand from an offset on, looking at most `fuel` words ahead (R174, R48). -/
def zeroWords (m : Memory) (pos : Nat) : Nat → Nat
  | 0 => 0
  | fuel + 1 => if peekWord m pos 4 = some 0 then zeroWords m (pos + 4) fuel + 1 else 0

end Sys2Proof.Machine
end

