-- ==== Sys2Proof/Machine/Ops.lean ====
section
/-!
DEFINITION. The shared operations of a step: taking an error (spec/60_exceptions.md R191), ending the sequence (R181),
committing a packet (R180), and the procedures of the register writes (R97), the long writes (R167), the auto-checksum
(R173) and the BugFdri run (R174). There is no return from an error (R193), so none stands beside `State.fail`.
-/

namespace Sys2Proof.Machine

/-- How a procedure stops without yielding a packet: an error of the block with its offset (R12 `raise`). -/
inductive Stop where
  | raise (kind : ErrorKind) (offset : Nat)
deriving DecidableEq, Repr

/-- The cause code of an error kind (R188). -/
def ErrorKind.code : ErrorKind → Nat
  | .truncated => 1
  | .unexpectedWord => 2
  | .unexpectedWordCount => 3
  | .unknownRegister => 4
  | .unknownCommand => 5
  | .malformedPadding => 6

/-- What a procedure yields: the packet, the events it emitted, and the working copy of the state (R12 `yield`, R178). -/
structure Yield where
  packet : Packet
  events : List CrcCheck
  after : State
deriving DecidableEq, Repr

/-- TAKING AN ERROR: the status records kind and offset, the error is the result of the step, nothing else is written
(R180, R191). -/
def State.fail (s : State) (kind : ErrorKind) (offset : Nat) : State :=
  { s with status := .failed kind offset, results := s.results ++ [.error kind offset] }

/-- The end of the sequence (R181 (a)). -/
def State.finish (s : State) : State := { s with status := .ended, results := s.results ++ [.endOfSequence] }

/-- Committing a packet: the working copy's writes and the result take effect together (R180); the result carries the
header's offset, the position before the step (R177). -/
def State.commit (s : State) (y : Yield) : State :=
  { y.after with results := s.results ++ [.packet y.packet s.position y.events] }

/-- The outcome of a step whose procedure ran on a copy of `s` (R178 `Next`). -/
def settle (s : State) : Except Stop Yield → Host.Outcome State Fault Refusal
  | .ok y => .next (s.commit y)
  | .error (.raise kind offset) => .next (s.fail kind offset)

/-- A packet class that only one decoder mode accepts; in the other mode its header is illegal (R59, R68, R95). -/
def inMode (synced : Bool) (s : State) (body : Except Stop Yield) : Except Stop Yield :=
  if s.synced = synced then body else .error (.raise .unexpectedWord s.position)

/-- `REGTABLE(kind)[reg]` of the session (R32). -/
def State.lookupReg (s : State) (reg : RegId) : Option RegEntry := s.cfg.lookupReg s.kind reg

/-- `CMDTABLE(kind)[code]` of the session (R145). -/
def State.lookupCmd (s : State) (code : Word) : Option Command := s.cfg.lookupCmd s.kind code

/-- `DEBUG_EXEMPT(kind)` of the session (R82). -/
def State.debugExempt (s : State) : List RegId := s.cfg.debugExempt.get s.kind

/-- `autocrc(kind)` (R31, R173). -/
def State.autoCrc (s : State) : Bool := s.cfg.autoCrcKinds.contains s.kind

/-- `bugfdri(kind)` (R31, R174). -/
def State.bugFdri (s : State) : Bool := s.cfg.bugFdriKinds.contains s.kind

/-- `width_detect(kind)` (R31, R92). -/
def State.widthDetect (s : State) : Bool := s.cfg.widthDetectKinds.contains s.kind

/-- `sync16_verify(kind)` (R31, R94). -/
def State.sync16Verify (s : State) : Bool := s.cfg.sync16Verify.get s.kind

/-- `exempt(reg)`: the tag is Crc or the id is a debug register's (R34, R82). -/
def State.exempt (s : State) (e : RegEntry) : Bool := e.tag == .crc || s.debugExempt.contains e.id

/-- The accumulator after a write of these words to a register (R81, R82). -/
def State.absorb (s : State) (e : RegEntry) (words : List Word) : BitVec 32 :=
  if s.exempt e then s.checksum else feedAll s.kind s.checksum words e.id

/-- A packet's data words: the window, the words in it and the offset after them. -/
structure Payload where
  window : Window
  words : List Word
  next : Nat
deriving DecidableEq, Repr

/-- Reading `n` data words of `wb` bytes at `p`; `Truncated` at the header when they are cut (R97, R167, R189). -/
def payload (s : State) (p wb n : Nat) : Except Stop Payload :=
  match readWindow s.buf p (n * wb) with
  | some (win, q) => .ok ⟨win, wordsAt s.buf p wb n, q⟩
  | none => .error (.raise .truncated s.position)

/-- Whether a word count fits a cardinality (R97). -/
def cardAdmits : Card → Nat → Bool
  | .one, n => n == 1
  | .two, n => n == 2
  | .var, _ => true

/-- `CommandDecode(c, h)` (R145). -/
def commandDecode (s : State) (code : Word) : Except Stop Packet :=
  match s.lookupCmd code with
  | some c => .ok (.command c)
  | none => .error (.raise .unknownCommand s.position)

/-- The padding check of an Mfwr write: any non-zero byte of the window is `MalformedPadding` (R105, R168). -/
def paddingPacket (s : State) (win : Window) (n : Nat) : Except Stop Packet :=
  if (win.bytes s.buf).all (fun b => b == 0) then .ok (.mfwr n) else .error (.raise .malformedPadding s.position)

/-- `Build(tag, card, ws, win, h)`: the RegisterTable dispatch of a Type-1 write, in the order of R98. A Cmd write without a data
word, which only a Cmd entry of variable length lets through, is `UnexpectedWordCount` (R107; DEDUCED, log entry 12). One of
several words, which a Cmd entry of two words or of variable length lets through, decodes its first word, as R97 and R98
are written, though R107 asks for one word (DESIGN CHOICE, log entry 30). -/
def build (s : State) (wb : Nat) (e : RegEntry) (n : Nat) (pl : Payload) : Except Stop Packet :=
  if e.tag = .cmd then
    match pl.words with
    | c :: _ => commandDecode s c
    | [] => .error (.raise .unexpectedWordCount s.position)
  else if e.tag = .mfwr then paddingPacket s pl.window n
  else if e.tag = .fdri then .ok (.fdri pl.window)
  else if e.card = .var then .ok (.window e.tag pl.window)
  else if e.tag = .crc then .ok (.crc (valueOf wb pl.words))
  else .ok (.value e.tag (valueOf wb pl.words))

/-- The events of a Type-1 write: one comparison for a write to the Crc register, none for any other (R97, R86, R87). -/
def writeEvents (s : State) (wb : Nat) (e : RegEntry) (pl : Payload) : List CrcCheck :=
  if e.tag = .crc then [crcCheck pl.window.offset (valueOf wb pl.words) s.checksum] else []

/-- What a Type-1 write of these words commits: feed, `CmdRcrc` reset, `last_register`, position (R97, R84, R102). -/
def finishWrite (s : State) (wb : Nat) (e : RegEntry) (pl : Payload) (pkt : Packet) : Yield where
  packet := pkt
  events := writeEvents s wb e pl
  after :=
    { s with
      position := pl.next
      lastRegister := some e.id
      checksum := if pkt = .command .rcrc then 0 else s.absorb e pl.words }

/-- A Type-1 write once its data words are read and its table entry is known: cardinality check, then Build (R97,
R100). -/
def writeBody (s : State) (wb : Nat) (e : RegEntry) (n : Nat) (pl : Payload) : Except Stop Yield :=
  if cardAdmits e.card n then
    match build s wb e n pl with
    | .ok pkt => .ok (finishWrite s wb e pl pkt)
    | .error stop => .error stop
  else .error (.raise .unexpectedWordCount s.position)

/-- `Type1Write(h, reg, wc, p)` with the register looked up in the session's table (R97, R100). -/
def type1Write (s : State) (wb : Nat) (reg : RegId) (n : Nat) : Except Stop Yield :=
  inMode true s <|
    match payload s (s.position + wb) wb n with
    | .error stop => .error stop
    | .ok pl =>
      match s.lookupReg reg with
      | none => .error (.raise .unknownRegister s.position)
      | some e => writeBody s wb e n pl

/-- `Type1Write` of a `WRITE_` row, whose table entry the row fixes (R97, R103 to R144; log entry 15). -/
def rowWrite (s : State) (wb : Nat) (e : RegEntry) (n : Nat) : Except Stop Yield :=
  inMode true s <|
    match payload s (s.position + wb) wb n with
    | .error stop => .error stop
    | .ok pl => writeBody s wb e n pl

/-- `Type1Write` of a `CMD_` row, whose code word and command the row fixes (R97, R107, R145; log entry 15). -/
def commandWrite (s : State) (wb : Nat) (reg : RegId) (code : Word) (c : Command) : Except Stop Yield :=
  inMode true s <|
    match payload s (s.position + wb) wb 1 with
    | .error stop => .error stop
    | .ok pl => .ok (finishWrite s wb ⟨reg, .cmd, .one⟩ { pl with words := [code] } (.command c))

/-- `LongBuild(tag, ws, win, h)` of a variable-length register (R168). -/
def longBuild (s : State) (e : RegEntry) (n : Nat) (pl : Payload) : Except Stop Packet :=
  if e.tag = .fdri then .ok (.fdri pl.window)
  else if e.tag = .mfwr then paddingPacket s pl.window n
  else .ok (.window e.tag pl.window)

/-- `AutoCheck(h, q)` on a long write's working copy: read the word, compare, reset on a match (R173, R85). -/
def autoCheck (s : State) (y : Yield) : Except Stop Yield :=
  match readWord s.buf y.after.position 4 with
  | none => .error (.raise .truncated s.position)
  | some (a, q) =>
    .ok
      { packet := y.packet
        events := y.events ++ [crcCheck y.after.position (.bits32 a) y.after.checksum]
        after := { y.after with position := q, checksum := afterAutoCheck a y.after.checksum } }

/-- The working copy of a long write before any auto-checksum: position and feed; `last_register` is not written (R167). -/
def longYield (s : State) (e : RegEntry) (pl : Payload) (pkt : Packet) : Yield where
  packet := pkt
  events := []
  after := { s with position := pl.next, checksum := s.absorb e pl.words }

/-- `LongWrite(h, reg, n, p)`: the body of every long write (R167). A register without an entry is `UnknownRegister`
(R32; it cannot be reached, log entry 13). -/
def longWrite (s : State) (wb : Nat) (reg : RegId) (n p : Nat) : Except Stop Yield :=
  match payload s p wb n with
  | .error stop => .error stop
  | .ok pl =>
    match s.lookupReg reg with
    | none => .error (.raise .unknownRegister s.position)
    | some e =>
      if e.card = .var then
        match longBuild s e n pl with
        | .error stop => .error stop
        | .ok pkt =>
          if s.autoCrc && e.tag == .fdri then autoCheck s (longYield s e pl pkt) else .ok (longYield s e pl pkt)
      else .error (.raise .unexpectedWordCount s.position)

/-- `Type2Write(h, wc, p)` (R170). -/
def type2Write (s : State) (n : Nat) : Except Stop Yield :=
  inMode true s <|
    match s.lastRegister with
    | none => .error (.raise .unexpectedWord s.position)
    | some reg => longWrite s 4 reg n (s.position + 4)

/-- The register a 16-bit long write targets, by `LW16_REG_SOURCE` (R172); `field` is the header's bits 10:5. -/
def lw16Register (s : State) (field : RegId) : Except Stop RegId :=
  match s.cfg.lw16RegSource with
  | .lastRegister =>
    match s.lastRegister with
    | none => .error (.raise .unexpectedWord s.position)
    | some reg => .ok reg
  | .headerField =>
    match s.lookupReg field with
    | none => .error (.raise .unknownRegister s.position)
    | some _ => .ok field

/-- `LongWrite16(h, hdr, p)` (R172). -/
def longWrite16 (s : State) (field : RegId) : Except Stop Yield :=
  inMode true s <|
    match lw16Register s field with
    | .error stop => .error stop
    | .ok reg =>
      match readWord s.buf (s.position + 2) 4 with
      | none => .error (.raise .truncated s.position)
      | some (n, p) => longWrite s 2 reg n.toNat p

/-- The number of words of the BugFdri run that starts at the header: the header's zero word and every zero word after
it (R174). -/
def bugFdriRun (s : State) : Nat := 1 + zeroWords s.buf (s.position + 4) s.buf.len

/-- The register a BugFdri run feeds with: the one entry whose tag is Fdri; where the table has none, or several of different
ids, the id is a free value, exempt as the table says (R174, R34; DESIGN CHOICE, log entry 28). -/
def State.bugFdriEntry (s : State) : RegEntry :=
  match s.cfg.fdriEntry s.kind with
  | some e => e
  | none =>
    let f := (unstatedFdriId s.kind (s.cfg.regTable.get s.kind)).toNat
    (s.lookupReg f).getD ⟨f, .fdri, .var⟩

/-- `BugFdri(h)`; outside `BUGFDRI_KINDS` the zero word is illegal (R174, R63). -/
def bugFdriWrite (s : State) : Except Stop Yield :=
  inMode true s <|
    if s.bugFdri then
      let n := bugFdriRun s
      .ok
        { packet := .bugFdri ⟨s.position, 4 * n⟩
          events := []
          after := { s with position := s.position + 4 * n, checksum := s.absorb s.bugFdriEntry (List.replicate n 0) } }
    else .error (.raise .unexpectedWord s.position)

/-- An event added to the last result of the stream, the packet that carries it (R177). -/
def attachEvent : List StepResult → CrcCheck → List StepResult
  | [], _ => []
  | [.packet p at_ evs], ev => [.packet p at_ (evs ++ [ev])]
  | [r], _ => [r]
  | r :: r' :: rest, ev => r :: attachEvent (r' :: rest) ev

/-- The header offset of the packet an auto-checksum word follows: the last result is an Fdri packet (R173). -/
def fdriPacketOffset (s : State) : Option Nat :=
  match s.results.getLast? with
  | some (.packet (.fdri _) at_ _) => some at_
  | _ => none

/-- The auto-checksum word on its own: `AutoCheck` applied to a state that stands just after the data words of a long
write to Fdri (R173; no step reaches it, log entry 14). -/
def autoWord (s : State) (value : BitVec 32) : State :=
  match s.autoCrc, fdriPacketOffset s with
  | true, some h =>
    if s.position + 4 ≤ s.buf.len then
      { s with
        position := s.position + 4
        checksum := afterAutoCheck value s.checksum
        results := attachEvent s.results (crcCheck s.position (.bits32 value) s.checksum) }
    else s.fail .truncated h
  | _, _ => s.fail .unexpectedWord s.position

/-- A framing packet or Nop of `n` bytes that yields `pkt` and leaves the mode at `synced` (R91, R93, R96). -/
def framing (s : State) (pkt : Packet) (n : Nat) (synced : Bool) : Yield where
  packet := pkt
  events := []
  after := { s with position := s.position + n, synced := synced }

/-- `WidthDetect(h)` (R92). -/
def widthDetectPair (s : State) : Except Stop Yield :=
  inMode false s <|
    if s.widthDetect then
      match readWord s.buf (s.position + 4) 4 with
      | none => .error (.raise .truncated s.position)
      | some (c, _) =>
        if c = 0x11220044 then .ok (framing s .widthDetect 8 false)
        else .error (.raise .unexpectedWord (s.position + 4))
    else .error (.raise .unexpectedWord s.position)

/-- `SyncWord16(h)` (R94). -/
def syncWord16 (s : State) : Except Stop Yield :=
  inMode false s <|
    if s.sync16Verify then
      match readWord s.buf (s.position + 2) 2 with
      | none => .error (.raise .truncated s.position)
      | some (c, _) =>
        if c = 0x5566 then .ok (framing s .syncWord 4 true) else .error (.raise .unexpectedWord (s.position + 2))
    else .ok (framing s .syncWord 2 true)

end Sys2Proof.Machine
end

