-- ==== Sys2Proof/Machine/Commands.lean ====
section
/-!
DEFINITION. The meanings of the one-word writes of a command code (spec/43_commands.md R145 to R166), one definition per `CMD_`
row. A row fixes the register id, the code and the command. Commands are reported, not performed (R147); only `CmdRcrc`
resets the accumulator (R155).
-/

namespace Sys2Proof.Machine

/-- CMD_Null_VirtexOriginal (R148). -/
def execCmdNullVirtexOriginal (s : State) : Host.Outcome State Fault Refusal :=
  settle s (commandWrite s 4 4 0 .null)

/-- CMD_Wcfg_VirtexOriginal (R149). -/
def execCmdWcfgVirtexOriginal (s : State) : Host.Outcome State Fault Refusal :=
  settle s (commandWrite s 4 4 1 .wcfg)

/-- CMD_Lfrm_VirtexOriginal (R151). -/
def execCmdLfrmVirtexOriginal (s : State) : Host.Outcome State Fault Refusal :=
  settle s (commandWrite s 4 4 3 .lfrm)

/-- CMD_Rcfg_VirtexOriginal (R152). -/
def execCmdRcfgVirtexOriginal (s : State) : Host.Outcome State Fault Refusal :=
  settle s (commandWrite s 4 4 4 .rcfg)

/-- CMD_Start_VirtexOriginal (R153). -/
def execCmdStartVirtexOriginal (s : State) : Host.Outcome State Fault Refusal :=
  settle s (commandWrite s 4 4 5 .start)

/-- CMD_Rcap_VirtexOriginal (R154). -/
def execCmdRcapVirtexOriginal (s : State) : Host.Outcome State Fault Refusal :=
  settle s (commandWrite s 4 4 6 .rcap)

/-- CMD_Rcrc_VirtexOriginal (R155). -/
def execCmdRcrcVirtexOriginal (s : State) : Host.Outcome State Fault Refusal :=
  settle s (commandWrite s 4 4 7 .rcrc)

/-- CMD_Aghigh_VirtexOriginal (R156). -/
def execCmdAghighVirtexOriginal (s : State) : Host.Outcome State Fault Refusal :=
  settle s (commandWrite s 4 4 8 .aghigh)

/-- CMD_Switch_VirtexOriginal (R157). -/
def execCmdSwitchVirtexOriginal (s : State) : Host.Outcome State Fault Refusal :=
  settle s (commandWrite s 4 4 9 .switch)

/-- CMD_Null_VirtexII (R148). -/
def execCmdNullVirtexII (s : State) : Host.Outcome State Fault Refusal :=
  settle s (commandWrite s 4 4 0 .null)

/-- CMD_Wcfg_VirtexII (R149). -/
def execCmdWcfgVirtexII (s : State) : Host.Outcome State Fault Refusal :=
  settle s (commandWrite s 4 4 1 .wcfg)

/-- CMD_Mfwr_VirtexII (R150). -/
def execCmdMfwrVirtexII (s : State) : Host.Outcome State Fault Refusal :=
  settle s (commandWrite s 4 4 2 .mfwr)

/-- CMD_Lfrm_VirtexII (R151). -/
def execCmdLfrmVirtexII (s : State) : Host.Outcome State Fault Refusal :=
  settle s (commandWrite s 4 4 3 .lfrm)

/-- CMD_Rcfg_VirtexII (R152). -/
def execCmdRcfgVirtexII (s : State) : Host.Outcome State Fault Refusal :=
  settle s (commandWrite s 4 4 4 .rcfg)

/-- CMD_Start_VirtexII (R153). -/
def execCmdStartVirtexII (s : State) : Host.Outcome State Fault Refusal :=
  settle s (commandWrite s 4 4 5 .start)

/-- CMD_Rcap_VirtexII (R154). -/
def execCmdRcapVirtexII (s : State) : Host.Outcome State Fault Refusal :=
  settle s (commandWrite s 4 4 6 .rcap)

/-- CMD_Rcrc_VirtexII (R155). -/
def execCmdRcrcVirtexII (s : State) : Host.Outcome State Fault Refusal :=
  settle s (commandWrite s 4 4 7 .rcrc)

/-- CMD_Aghigh_VirtexII (R156). -/
def execCmdAghighVirtexII (s : State) : Host.Outcome State Fault Refusal :=
  settle s (commandWrite s 4 4 8 .aghigh)

/-- CMD_Switch_VirtexII (R157). -/
def execCmdSwitchVirtexII (s : State) : Host.Outcome State Fault Refusal :=
  settle s (commandWrite s 4 4 9 .switch)

/-- CMD_Grestore_VirtexII (R158). -/
def execCmdGrestoreVirtexII (s : State) : Host.Outcome State Fault Refusal :=
  settle s (commandWrite s 4 4 10 .grestore)

/-- CMD_Shutdown_VirtexII (R159). -/
def execCmdShutdownVirtexII (s : State) : Host.Outcome State Fault Refusal :=
  settle s (commandWrite s 4 4 11 .shutdown)

/-- CMD_Gcapture_VirtexII (R160). -/
def execCmdGcaptureVirtexII (s : State) : Host.Outcome State Fault Refusal :=
  settle s (commandWrite s 4 4 12 .gcapture)

/-- CMD_Desynch_VirtexII (R161). -/
def execCmdDesynchVirtexII (s : State) : Host.Outcome State Fault Refusal :=
  settle s (commandWrite s 4 4 13 .desynch)

/-- CMD_Null_VirtexIVPlus (R148). -/
def execCmdNullVirtexIVPlus (s : State) : Host.Outcome State Fault Refusal :=
  settle s (commandWrite s 4 4 0 .null)

/-- CMD_Wcfg_VirtexIVPlus (R149). -/
def execCmdWcfgVirtexIVPlus (s : State) : Host.Outcome State Fault Refusal :=
  settle s (commandWrite s 4 4 1 .wcfg)

/-- CMD_Mfwr_VirtexIVPlus (R150). -/
def execCmdMfwrVirtexIVPlus (s : State) : Host.Outcome State Fault Refusal :=
  settle s (commandWrite s 4 4 2 .mfwr)

/-- CMD_Lfrm_VirtexIVPlus (R151). -/
def execCmdLfrmVirtexIVPlus (s : State) : Host.Outcome State Fault Refusal :=
  settle s (commandWrite s 4 4 3 .lfrm)

/-- CMD_Rcfg_VirtexIVPlus (R152). -/
def execCmdRcfgVirtexIVPlus (s : State) : Host.Outcome State Fault Refusal :=
  settle s (commandWrite s 4 4 4 .rcfg)

/-- CMD_Start_VirtexIVPlus (R153). -/
def execCmdStartVirtexIVPlus (s : State) : Host.Outcome State Fault Refusal :=
  settle s (commandWrite s 4 4 5 .start)

/-- CMD_Rcap_VirtexIVPlus (R154). -/
def execCmdRcapVirtexIVPlus (s : State) : Host.Outcome State Fault Refusal :=
  settle s (commandWrite s 4 4 6 .rcap)

/-- CMD_Rcrc_VirtexIVPlus (R155). -/
def execCmdRcrcVirtexIVPlus (s : State) : Host.Outcome State Fault Refusal :=
  settle s (commandWrite s 4 4 7 .rcrc)

/-- CMD_Aghigh_VirtexIVPlus (R156). -/
def execCmdAghighVirtexIVPlus (s : State) : Host.Outcome State Fault Refusal :=
  settle s (commandWrite s 4 4 8 .aghigh)

/-- CMD_Switch_VirtexIVPlus (R157). -/
def execCmdSwitchVirtexIVPlus (s : State) : Host.Outcome State Fault Refusal :=
  settle s (commandWrite s 4 4 9 .switch)

/-- CMD_Grestore_VirtexIVPlus (R158). -/
def execCmdGrestoreVirtexIVPlus (s : State) : Host.Outcome State Fault Refusal :=
  settle s (commandWrite s 4 4 10 .grestore)

/-- CMD_Shutdown_VirtexIVPlus (R159). -/
def execCmdShutdownVirtexIVPlus (s : State) : Host.Outcome State Fault Refusal :=
  settle s (commandWrite s 4 4 11 .shutdown)

/-- CMD_Gcapture_VirtexIVPlus (R160). -/
def execCmdGcaptureVirtexIVPlus (s : State) : Host.Outcome State Fault Refusal :=
  settle s (commandWrite s 4 4 12 .gcapture)

/-- CMD_Desynch_VirtexIVPlus (R161). -/
def execCmdDesynchVirtexIVPlus (s : State) : Host.Outcome State Fault Refusal :=
  settle s (commandWrite s 4 4 13 .desynch)

/-- CMD_Iprog_VirtexIVPlus (R162). -/
def execCmdIprogVirtexIVPlus (s : State) : Host.Outcome State Fault Refusal :=
  settle s (commandWrite s 4 4 15 .iprog)

/-- CMD_Crcc_VirtexIVPlus (R163). -/
def execCmdCrccVirtexIVPlus (s : State) : Host.Outcome State Fault Refusal :=
  settle s (commandWrite s 4 4 16 .crcc)

/-- CMD_Ltimer_VirtexIVPlus (R164). -/
def execCmdLtimerVirtexIVPlus (s : State) : Host.Outcome State Fault Refusal :=
  settle s (commandWrite s 4 4 17 .ltimer)

/-- CMD_BspiRead_VirtexIVPlus (R165). -/
def execCmdBspiReadVirtexIVPlus (s : State) : Host.Outcome State Fault Refusal :=
  settle s (commandWrite s 4 4 18 .bspiRead)

/-- CMD_FallEdge_VirtexIVPlus (R166). -/
def execCmdFallEdgeVirtexIVPlus (s : State) : Host.Outcome State Fault Refusal :=
  settle s (commandWrite s 4 4 19 .fallEdge)

/-- CMD_Null_Spartan3A (R148). -/
def execCmdNullSpartan3A (s : State) : Host.Outcome State Fault Refusal :=
  settle s (commandWrite s 2 5 0 .null)

/-- CMD_Wcfg_Spartan3A (R149). -/
def execCmdWcfgSpartan3A (s : State) : Host.Outcome State Fault Refusal :=
  settle s (commandWrite s 2 5 1 .wcfg)

/-- CMD_Mfwr_Spartan3A (R150). -/
def execCmdMfwrSpartan3A (s : State) : Host.Outcome State Fault Refusal :=
  settle s (commandWrite s 2 5 2 .mfwr)

/-- CMD_Lfrm_Spartan3A (R151). -/
def execCmdLfrmSpartan3A (s : State) : Host.Outcome State Fault Refusal :=
  settle s (commandWrite s 2 5 3 .lfrm)

/-- CMD_Rcfg_Spartan3A (R152). -/
def execCmdRcfgSpartan3A (s : State) : Host.Outcome State Fault Refusal :=
  settle s (commandWrite s 2 5 4 .rcfg)

/-- CMD_Start_Spartan3A (R153). -/
def execCmdStartSpartan3A (s : State) : Host.Outcome State Fault Refusal :=
  settle s (commandWrite s 2 5 5 .start)

/-- CMD_Rcrc_Spartan3A (R155). -/
def execCmdRcrcSpartan3A (s : State) : Host.Outcome State Fault Refusal :=
  settle s (commandWrite s 2 5 7 .rcrc)

/-- CMD_Aghigh_Spartan3A (R156). -/
def execCmdAghighSpartan3A (s : State) : Host.Outcome State Fault Refusal :=
  settle s (commandWrite s 2 5 8 .aghigh)

/-- CMD_Grestore_Spartan3A (R158). -/
def execCmdGrestoreSpartan3A (s : State) : Host.Outcome State Fault Refusal :=
  settle s (commandWrite s 2 5 10 .grestore)

/-- CMD_Shutdown_Spartan3A (R159). -/
def execCmdShutdownSpartan3A (s : State) : Host.Outcome State Fault Refusal :=
  settle s (commandWrite s 2 5 11 .shutdown)

/-- CMD_Desynch_Spartan3A (R161). -/
def execCmdDesynchSpartan3A (s : State) : Host.Outcome State Fault Refusal :=
  settle s (commandWrite s 2 5 13 .desynch)

/-- CMD_Iprog_Spartan3A (R162). -/
def execCmdIprogSpartan3A (s : State) : Host.Outcome State Fault Refusal :=
  settle s (commandWrite s 2 5 14 .iprog)

/-- CMD_Null_Spartan6 (R148). -/
def execCmdNullSpartan6 (s : State) : Host.Outcome State Fault Refusal :=
  settle s (commandWrite s 2 5 0 .null)

/-- CMD_Wcfg_Spartan6 (R149). -/
def execCmdWcfgSpartan6 (s : State) : Host.Outcome State Fault Refusal :=
  settle s (commandWrite s 2 5 1 .wcfg)

/-- CMD_Mfwr_Spartan6 (R150). -/
def execCmdMfwrSpartan6 (s : State) : Host.Outcome State Fault Refusal :=
  settle s (commandWrite s 2 5 2 .mfwr)

/-- CMD_Lfrm_Spartan6 (R151). -/
def execCmdLfrmSpartan6 (s : State) : Host.Outcome State Fault Refusal :=
  settle s (commandWrite s 2 5 3 .lfrm)

/-- CMD_Rcfg_Spartan6 (R152). -/
def execCmdRcfgSpartan6 (s : State) : Host.Outcome State Fault Refusal :=
  settle s (commandWrite s 2 5 4 .rcfg)

/-- CMD_Start_Spartan6 (R153). -/
def execCmdStartSpartan6 (s : State) : Host.Outcome State Fault Refusal :=
  settle s (commandWrite s 2 5 5 .start)

/-- CMD_Rcrc_Spartan6 (R155). -/
def execCmdRcrcSpartan6 (s : State) : Host.Outcome State Fault Refusal :=
  settle s (commandWrite s 2 5 7 .rcrc)

/-- CMD_Aghigh_Spartan6 (R156). -/
def execCmdAghighSpartan6 (s : State) : Host.Outcome State Fault Refusal :=
  settle s (commandWrite s 2 5 8 .aghigh)

/-- CMD_Grestore_Spartan6 (R158). -/
def execCmdGrestoreSpartan6 (s : State) : Host.Outcome State Fault Refusal :=
  settle s (commandWrite s 2 5 10 .grestore)

/-- CMD_Shutdown_Spartan6 (R159). -/
def execCmdShutdownSpartan6 (s : State) : Host.Outcome State Fault Refusal :=
  settle s (commandWrite s 2 5 11 .shutdown)

/-- CMD_Desynch_Spartan6 (R161). -/
def execCmdDesynchSpartan6 (s : State) : Host.Outcome State Fault Refusal :=
  settle s (commandWrite s 2 5 13 .desynch)

/-- CMD_Iprog_Spartan6 (R162). -/
def execCmdIprogSpartan6 (s : State) : Host.Outcome State Fault Refusal :=
  settle s (commandWrite s 2 5 14 .iprog)

end Sys2Proof.Machine
end

