-- ==== Sys2Proof/Machine/Framing.lean ====
section
/-!
DEFINITION. The meanings of the framing packets and Nop (spec/41_framing.md R91 to R96).
-/

namespace Sys2Proof.Machine

/-- DUMMY32 (R91). -/
def execDummy32 (s : State) : Host.Outcome State Fault Refusal :=
  settle s (inMode false s (.ok (framing s .dummyWord 4 false)))

/-- DUMMY16 (R91). -/
def execDummy16 (s : State) : Host.Outcome State Fault Refusal :=
  settle s (inMode false s (.ok (framing s .dummyWord 2 false)))

/-- WIDTHDETECT (R92). -/
def execWidthDetect (s : State) : Host.Outcome State Fault Refusal := settle s (widthDetectPair s)

/-- SYNC32 (R93). -/
def execSync32 (s : State) : Host.Outcome State Fault Refusal :=
  settle s (inMode false s (.ok (framing s .syncWord 4 true)))

/-- SYNC16 (R94). -/
def execSync16 (s : State) : Host.Outcome State Fault Refusal := settle s (syncWord16 s)

/-- NOP32 (R96, R61). -/
def execNop32 (s : State) : Host.Outcome State Fault Refusal := settle s (inMode true s (.ok (framing s .nop 4 true)))

/-- NOP16 (R96, R65). -/
def execNop16 (s : State) : Host.Outcome State Fault Refusal := settle s (inMode true s (.ok (framing s .nop 2 true)))

end Sys2Proof.Machine
end

