-- ==== Sys2Proof/Machine/LongWrites.lean ====
section
/-!
DEFINITION. The meanings of the long writes, the BugFdri run and the auto-checksum word (spec/44_long_writes.md R167 to R175).
-/

namespace Sys2Proof.Machine

/-- T2WRITE (R170). -/
def execT2write (wc : BitVec 27) (s : State) : Host.Outcome State Fault Refusal := settle s (type2Write s wc.toNat)

/-- LWRITE (R172): bits 10:5 of the header are the register field of `LW16_REG_SOURCE = HeaderField`. -/
def execLwrite (low : BitVec 11) (s : State) : Host.Outcome State Fault Refusal :=
  settle s (longWrite16 s (low.extractLsb' 5 6).toNat)

/-- BUGFDRI (R174). -/
def execBugFdri (s : State) : Host.Outcome State Fault Refusal := settle s (bugFdriWrite s)

/-- AUTOCRC (R173): the auto-checksum word on its own. In a step the long write that it follows runs the same comparison
(`autoCheck`). -/
def execAutoCrc (value : BitVec 32) (s : State) : Host.Outcome State Fault Refusal := .next (autoWord s value)

end Sys2Proof.Machine
end

