-- ==== Sys2Proof/Machine/RegisterWrites.lean ====
section
/-!
DEFINITION. The meanings of the Type-1 register writes (spec/42_register_writes.md R97 to R144): the two generic headers, then
one definition per `WRITE_` row. A row fixes its register id, tag and cardinality (R36 to R40).
-/

namespace Sys2Proof.Machine

/-- T1WRITE32 (R97, R60): the register is looked up in the session's table. -/
def execT1write32 (reg : BitVec 14) (wc : BitVec 11) (s : State) : Host.Outcome State Fault Refusal :=
  settle s (type1Write s 4 reg.toNat wc.toNat)

/-- T1WRITE16 (R97, R64): the register is looked up in the session's table. -/
def execT1write16 (reg : BitVec 6) (wc : BitVec 5) (s : State) : Host.Outcome State Fault Refusal :=
  settle s (type1Write s 2 reg.toNat wc.toNat)

/-- WRITE_Crc_VirtexOriginal (R103). -/
def execWriteCrcVirtexOriginal (wc : BitVec 11) (s : State) : Host.Outcome State Fault Refusal :=
  settle s (rowWrite s 4 ⟨0, .crc, .one⟩ wc.toNat)

/-- WRITE_Far_VirtexOriginal (R108). -/
def execWriteFarVirtexOriginal (wc : BitVec 11) (s : State) : Host.Outcome State Fault Refusal :=
  settle s (rowWrite s 4 ⟨1, .far, .one⟩ wc.toNat)

/-- WRITE_Fdri_VirtexOriginal (R104). -/
def execWriteFdriVirtexOriginal (wc : BitVec 11) (s : State) : Host.Outcome State Fault Refusal :=
  settle s (rowWrite s 4 ⟨2, .fdri, .var⟩ wc.toNat)

/-- WRITE_Cmd_VirtexOriginal (R107). -/
def execWriteCmdVirtexOriginal (wc : BitVec 11) (s : State) : Host.Outcome State Fault Refusal :=
  settle s (rowWrite s 4 ⟨4, .cmd, .one⟩ wc.toNat)

/-- WRITE_Ctl0_VirtexOriginal (R111). -/
def execWriteCtl0VirtexOriginal (wc : BitVec 11) (s : State) : Host.Outcome State Fault Refusal :=
  settle s (rowWrite s 4 ⟨5, .ctl0, .one⟩ wc.toNat)

/-- WRITE_Mask_VirtexOriginal (R113). -/
def execWriteMaskVirtexOriginal (wc : BitVec 11) (s : State) : Host.Outcome State Fault Refusal :=
  settle s (rowWrite s 4 ⟨6, .mask, .one⟩ wc.toNat)

/-- WRITE_Lout_VirtexOriginal (R114). -/
def execWriteLoutVirtexOriginal (wc : BitVec 11) (s : State) : Host.Outcome State Fault Refusal :=
  settle s (rowWrite s 4 ⟨8, .lout, .one⟩ wc.toNat)

/-- WRITE_Cor0_VirtexOriginal (R115). -/
def execWriteCor0VirtexOriginal (wc : BitVec 11) (s : State) : Host.Outcome State Fault Refusal :=
  settle s (rowWrite s 4 ⟨9, .cor0, .one⟩ wc.toNat)

/-- WRITE_Flr_VirtexOriginal (R118). -/
def execWriteFlrVirtexOriginal (wc : BitVec 11) (s : State) : Host.Outcome State Fault Refusal :=
  settle s (rowWrite s 4 ⟨11, .flr, .one⟩ wc.toNat)

/-- WRITE_Crc_VirtexII (R103). -/
def execWriteCrcVirtexII (wc : BitVec 11) (s : State) : Host.Outcome State Fault Refusal :=
  settle s (rowWrite s 4 ⟨0, .crc, .one⟩ wc.toNat)

/-- WRITE_Far_VirtexII (R108). -/
def execWriteFarVirtexII (wc : BitVec 11) (s : State) : Host.Outcome State Fault Refusal :=
  settle s (rowWrite s 4 ⟨1, .far, .one⟩ wc.toNat)

/-- WRITE_Fdri_VirtexII (R104). -/
def execWriteFdriVirtexII (wc : BitVec 11) (s : State) : Host.Outcome State Fault Refusal :=
  settle s (rowWrite s 4 ⟨2, .fdri, .var⟩ wc.toNat)

/-- WRITE_Cmd_VirtexII (R107). -/
def execWriteCmdVirtexII (wc : BitVec 11) (s : State) : Host.Outcome State Fault Refusal :=
  settle s (rowWrite s 4 ⟨4, .cmd, .one⟩ wc.toNat)

/-- WRITE_Ctl0_VirtexII (R111). -/
def execWriteCtl0VirtexII (wc : BitVec 11) (s : State) : Host.Outcome State Fault Refusal :=
  settle s (rowWrite s 4 ⟨5, .ctl0, .one⟩ wc.toNat)

/-- WRITE_Mask_VirtexII (R113). -/
def execWriteMaskVirtexII (wc : BitVec 11) (s : State) : Host.Outcome State Fault Refusal :=
  settle s (rowWrite s 4 ⟨6, .mask, .one⟩ wc.toNat)

/-- WRITE_Lout_VirtexII (R114). -/
def execWriteLoutVirtexII (wc : BitVec 11) (s : State) : Host.Outcome State Fault Refusal :=
  settle s (rowWrite s 4 ⟨8, .lout, .one⟩ wc.toNat)

/-- WRITE_Cor0_VirtexII (R115). -/
def execWriteCor0VirtexII (wc : BitVec 11) (s : State) : Host.Outcome State Fault Refusal :=
  settle s (rowWrite s 4 ⟨9, .cor0, .one⟩ wc.toNat)

/-- WRITE_Mfwr_VirtexII (R105). -/
def execWriteMfwrVirtexII (wc : BitVec 11) (s : State) : Host.Outcome State Fault Refusal :=
  settle s (rowWrite s 4 ⟨10, .mfwr, .var⟩ wc.toNat)

/-- WRITE_Flr_VirtexII (R118). -/
def execWriteFlrVirtexII (wc : BitVec 11) (s : State) : Host.Outcome State Fault Refusal :=
  settle s (rowWrite s 4 ⟨11, .flr, .one⟩ wc.toNat)

/-- WRITE_Key_VirtexII (R119). -/
def execWriteKeyVirtexII (wc : BitVec 11) (s : State) : Host.Outcome State Fault Refusal :=
  settle s (rowWrite s 4 ⟨12, .key, .one⟩ wc.toNat)

/-- WRITE_Cbc_VirtexII (R106). -/
def execWriteCbcVirtexII (wc : BitVec 11) (s : State) : Host.Outcome State Fault Refusal :=
  settle s (rowWrite s 4 ⟨13, .cbc, .var⟩ wc.toNat)

/-- WRITE_Idcode_VirtexII (R120). -/
def execWriteIdcodeVirtexII (wc : BitVec 11) (s : State) : Host.Outcome State Fault Refusal :=
  settle s (rowWrite s 4 ⟨14, .idcode, .one⟩ wc.toNat)

/-- WRITE_Crc_VirtexIVPlus (R103). -/
def execWriteCrcVirtexIVPlus (wc : BitVec 11) (s : State) : Host.Outcome State Fault Refusal :=
  settle s (rowWrite s 4 ⟨0, .crc, .one⟩ wc.toNat)

/-- WRITE_Far_VirtexIVPlus (R108). -/
def execWriteFarVirtexIVPlus (wc : BitVec 11) (s : State) : Host.Outcome State Fault Refusal :=
  settle s (rowWrite s 4 ⟨1, .far, .one⟩ wc.toNat)

/-- WRITE_Fdri_VirtexIVPlus (R104). -/
def execWriteFdriVirtexIVPlus (wc : BitVec 11) (s : State) : Host.Outcome State Fault Refusal :=
  settle s (rowWrite s 4 ⟨2, .fdri, .var⟩ wc.toNat)

/-- WRITE_Cmd_VirtexIVPlus (R107). -/
def execWriteCmdVirtexIVPlus (wc : BitVec 11) (s : State) : Host.Outcome State Fault Refusal :=
  settle s (rowWrite s 4 ⟨4, .cmd, .one⟩ wc.toNat)

/-- WRITE_Ctl0_VirtexIVPlus (R111). -/
def execWriteCtl0VirtexIVPlus (wc : BitVec 11) (s : State) : Host.Outcome State Fault Refusal :=
  settle s (rowWrite s 4 ⟨5, .ctl0, .one⟩ wc.toNat)

/-- WRITE_Mask_VirtexIVPlus (R113). -/
def execWriteMaskVirtexIVPlus (wc : BitVec 11) (s : State) : Host.Outcome State Fault Refusal :=
  settle s (rowWrite s 4 ⟨6, .mask, .one⟩ wc.toNat)

/-- WRITE_Lout_VirtexIVPlus (R114). -/
def execWriteLoutVirtexIVPlus (wc : BitVec 11) (s : State) : Host.Outcome State Fault Refusal :=
  settle s (rowWrite s 4 ⟨8, .lout, .one⟩ wc.toNat)

/-- WRITE_Cor0_VirtexIVPlus (R115). -/
def execWriteCor0VirtexIVPlus (wc : BitVec 11) (s : State) : Host.Outcome State Fault Refusal :=
  settle s (rowWrite s 4 ⟨9, .cor0, .one⟩ wc.toNat)

/-- WRITE_Mfwr_VirtexIVPlus (R105). -/
def execWriteMfwrVirtexIVPlus (wc : BitVec 11) (s : State) : Host.Outcome State Fault Refusal :=
  settle s (rowWrite s 4 ⟨10, .mfwr, .var⟩ wc.toNat)

/-- WRITE_Cbc_VirtexIVPlus (R106). -/
def execWriteCbcVirtexIVPlus (wc : BitVec 11) (s : State) : Host.Outcome State Fault Refusal :=
  settle s (rowWrite s 4 ⟨11, .cbc, .var⟩ wc.toNat)

/-- WRITE_Idcode_VirtexIVPlus (R120). -/
def execWriteIdcodeVirtexIVPlus (wc : BitVec 11) (s : State) : Host.Outcome State Fault Refusal :=
  settle s (rowWrite s 4 ⟨12, .idcode, .one⟩ wc.toNat)

/-- WRITE_Axss_VirtexIVPlus (R121). -/
def execWriteAxssVirtexIVPlus (wc : BitVec 11) (s : State) : Host.Outcome State Fault Refusal :=
  settle s (rowWrite s 4 ⟨13, .axss, .one⟩ wc.toNat)

/-- WRITE_Cor1_VirtexIVPlus (R116). -/
def execWriteCor1VirtexIVPlus (wc : BitVec 11) (s : State) : Host.Outcome State Fault Refusal :=
  settle s (rowWrite s 4 ⟨14, .cor1, .one⟩ wc.toNat)

/-- WRITE_Csob_VirtexIVPlus (R122). -/
def execWriteCsobVirtexIVPlus (wc : BitVec 11) (s : State) : Host.Outcome State Fault Refusal :=
  settle s (rowWrite s 4 ⟨15, .csob, .one⟩ wc.toNat)

/-- WRITE_Wbstar_VirtexIVPlus (R124). -/
def execWriteWbstarVirtexIVPlus (wc : BitVec 11) (s : State) : Host.Outcome State Fault Refusal :=
  settle s (rowWrite s 4 ⟨16, .wbstar, .one⟩ wc.toNat)

/-- WRITE_Timer_VirtexIVPlus (R125). -/
def execWriteTimerVirtexIVPlus (wc : BitVec 11) (s : State) : Host.Outcome State Fault Refusal :=
  settle s (rowWrite s 4 ⟨17, .timer, .one⟩ wc.toNat)

/-- WRITE_RbcrcSw_VirtexIVPlus (R126). -/
def execWriteRbcrcSwVirtexIVPlus (wc : BitVec 11) (s : State) : Host.Outcome State Fault Refusal :=
  settle s (rowWrite s 4 ⟨19, .rbcrcSw, .one⟩ wc.toNat)

/-- WRITE_Ctl1_VirtexIVPlus (R112). -/
def execWriteCtl1VirtexIVPlus (wc : BitVec 11) (s : State) : Host.Outcome State Fault Refusal :=
  settle s (rowWrite s 4 ⟨24, .ctl1, .one⟩ wc.toNat)

/-- WRITE_Bspi_VirtexIVPlus (R127). -/
def execWriteBspiVirtexIVPlus (wc : BitVec 11) (s : State) : Host.Outcome State Fault Refusal :=
  settle s (rowWrite s 4 ⟨31, .bspi, .one⟩ wc.toNat)

/-- WRITE_Crc_Spartan3A (R103). -/
def execWriteCrcSpartan3A (wc : BitVec 5) (s : State) : Host.Outcome State Fault Refusal :=
  settle s (rowWrite s 2 ⟨0, .crc, .two⟩ wc.toNat)

/-- WRITE_FarMaj_Spartan3A (R109). -/
def execWriteFarMajSpartan3A (wc : BitVec 5) (s : State) : Host.Outcome State Fault Refusal :=
  settle s (rowWrite s 2 ⟨1, .farMaj, .one⟩ wc.toNat)

/-- WRITE_FarMin_Spartan3A (R110). -/
def execWriteFarMinSpartan3A (wc : BitVec 5) (s : State) : Host.Outcome State Fault Refusal :=
  settle s (rowWrite s 2 ⟨2, .farMin, .one⟩ wc.toNat)

/-- WRITE_Fdri_Spartan3A (R104). -/
def execWriteFdriSpartan3A (wc : BitVec 5) (s : State) : Host.Outcome State Fault Refusal :=
  settle s (rowWrite s 2 ⟨3, .fdri, .var⟩ wc.toNat)

/-- WRITE_Cmd_Spartan3A (R107). -/
def execWriteCmdSpartan3A (wc : BitVec 5) (s : State) : Host.Outcome State Fault Refusal :=
  settle s (rowWrite s 2 ⟨5, .cmd, .one⟩ wc.toNat)

/-- WRITE_Ctl0_Spartan3A (R111). -/
def execWriteCtl0Spartan3A (wc : BitVec 5) (s : State) : Host.Outcome State Fault Refusal :=
  settle s (rowWrite s 2 ⟨6, .ctl0, .one⟩ wc.toNat)

/-- WRITE_Mask_Spartan3A (R113). -/
def execWriteMaskSpartan3A (wc : BitVec 5) (s : State) : Host.Outcome State Fault Refusal :=
  settle s (rowWrite s 2 ⟨7, .mask, .one⟩ wc.toNat)

/-- WRITE_Lout_Spartan3A (R114). -/
def execWriteLoutSpartan3A (wc : BitVec 5) (s : State) : Host.Outcome State Fault Refusal :=
  settle s (rowWrite s 2 ⟨9, .lout, .one⟩ wc.toNat)

/-- WRITE_Cor1_Spartan3A (R116). -/
def execWriteCor1Spartan3A (wc : BitVec 5) (s : State) : Host.Outcome State Fault Refusal :=
  settle s (rowWrite s 2 ⟨10, .cor1, .one⟩ wc.toNat)

/-- WRITE_Cor2_Spartan3A (R117). -/
def execWriteCor2Spartan3A (wc : BitVec 5) (s : State) : Host.Outcome State Fault Refusal :=
  settle s (rowWrite s 2 ⟨11, .cor2, .one⟩ wc.toNat)

/-- WRITE_Pwrdn_Spartan3A (R128). -/
def execWritePwrdnSpartan3A (wc : BitVec 5) (s : State) : Host.Outcome State Fault Refusal :=
  settle s (rowWrite s 2 ⟨12, .pwrdn, .one⟩ wc.toNat)

/-- WRITE_Flr_Spartan3A (R118). -/
def execWriteFlrSpartan3A (wc : BitVec 5) (s : State) : Host.Outcome State Fault Refusal :=
  settle s (rowWrite s 2 ⟨13, .flr, .one⟩ wc.toNat)

/-- WRITE_Idcode_Spartan3A (R120). -/
def execWriteIdcodeSpartan3A (wc : BitVec 5) (s : State) : Host.Outcome State Fault Refusal :=
  settle s (rowWrite s 2 ⟨14, .idcode, .two⟩ wc.toNat)

/-- WRITE_Snowplow_Spartan3A (R129). -/
def execWriteSnowplowSpartan3A (wc : BitVec 5) (s : State) : Host.Outcome State Fault Refusal :=
  settle s (rowWrite s 2 ⟨15, .snowplow, .one⟩ wc.toNat)

/-- WRITE_HcOpt_Spartan3A (R130). -/
def execWriteHcOptSpartan3A (wc : BitVec 5) (s : State) : Host.Outcome State Fault Refusal :=
  settle s (rowWrite s 2 ⟨16, .hcOpt, .one⟩ wc.toNat)

/-- WRITE_Csbo_Spartan3A (R123). -/
def execWriteCsboSpartan3A (wc : BitVec 5) (s : State) : Host.Outcome State Fault Refusal :=
  settle s (rowWrite s 2 ⟨18, .csbo, .one⟩ wc.toNat)

/-- WRITE_General1_Spartan3A (R131). -/
def execWriteGeneral1Spartan3A (wc : BitVec 5) (s : State) : Host.Outcome State Fault Refusal :=
  settle s (rowWrite s 2 ⟨19, .general1, .one⟩ wc.toNat)

/-- WRITE_General2_Spartan3A (R132). -/
def execWriteGeneral2Spartan3A (wc : BitVec 5) (s : State) : Host.Outcome State Fault Refusal :=
  settle s (rowWrite s 2 ⟨20, .general2, .one⟩ wc.toNat)

/-- WRITE_Mode_Spartan3A (R136). -/
def execWriteModeSpartan3A (wc : BitVec 5) (s : State) : Host.Outcome State Fault Refusal :=
  settle s (rowWrite s 2 ⟨21, .mode, .one⟩ wc.toNat)

/-- WRITE_PuGwe_Spartan3A (R137). -/
def execWritePuGweSpartan3A (wc : BitVec 5) (s : State) : Host.Outcome State Fault Refusal :=
  settle s (rowWrite s 2 ⟨22, .puGwe, .one⟩ wc.toNat)

/-- WRITE_PuGts_Spartan3A (R138). -/
def execWritePuGtsSpartan3A (wc : BitVec 5) (s : State) : Host.Outcome State Fault Refusal :=
  settle s (rowWrite s 2 ⟨23, .puGts, .one⟩ wc.toNat)

/-- WRITE_Mfwr_Spartan3A (R105). -/
def execWriteMfwrSpartan3A (wc : BitVec 5) (s : State) : Host.Outcome State Fault Refusal :=
  settle s (rowWrite s 2 ⟨24, .mfwr, .var⟩ wc.toNat)

/-- WRITE_CclkFreq_Spartan3A (R139). -/
def execWriteCclkFreqSpartan3A (wc : BitVec 5) (s : State) : Host.Outcome State Fault Refusal :=
  settle s (rowWrite s 2 ⟨25, .cclkFreq, .one⟩ wc.toNat)

/-- WRITE_SeuOpt_Spartan3A (R140). -/
def execWriteSeuOptSpartan3A (wc : BitVec 5) (s : State) : Host.Outcome State Fault Refusal :=
  settle s (rowWrite s 2 ⟨26, .seuOpt, .one⟩ wc.toNat)

/-- WRITE_ExpSign_Spartan3A (R141). -/
def execWriteExpSignSpartan3A (wc : BitVec 5) (s : State) : Host.Outcome State Fault Refusal :=
  settle s (rowWrite s 2 ⟨27, .expSign, .one⟩ wc.toNat)

/-- WRITE_RdbkSign_Spartan3A (R142). -/
def execWriteRdbkSignSpartan3A (wc : BitVec 5) (s : State) : Host.Outcome State Fault Refusal :=
  settle s (rowWrite s 2 ⟨28, .rdbkSign, .one⟩ wc.toNat)

/-- WRITE_Crc_Spartan6 (R103). -/
def execWriteCrcSpartan6 (wc : BitVec 5) (s : State) : Host.Outcome State Fault Refusal :=
  settle s (rowWrite s 2 ⟨0, .crc, .two⟩ wc.toNat)

/-- WRITE_FarMaj_Spartan6 (R109). -/
def execWriteFarMajSpartan6 (wc : BitVec 5) (s : State) : Host.Outcome State Fault Refusal :=
  settle s (rowWrite s 2 ⟨1, .farMaj, .one⟩ wc.toNat)

/-- WRITE_FarMin_Spartan6 (R110). -/
def execWriteFarMinSpartan6 (wc : BitVec 5) (s : State) : Host.Outcome State Fault Refusal :=
  settle s (rowWrite s 2 ⟨2, .farMin, .one⟩ wc.toNat)

/-- WRITE_Fdri_Spartan6 (R104). -/
def execWriteFdriSpartan6 (wc : BitVec 5) (s : State) : Host.Outcome State Fault Refusal :=
  settle s (rowWrite s 2 ⟨3, .fdri, .var⟩ wc.toNat)

/-- WRITE_Cmd_Spartan6 (R107). -/
def execWriteCmdSpartan6 (wc : BitVec 5) (s : State) : Host.Outcome State Fault Refusal :=
  settle s (rowWrite s 2 ⟨5, .cmd, .one⟩ wc.toNat)

/-- WRITE_Ctl0_Spartan6 (R111). -/
def execWriteCtl0Spartan6 (wc : BitVec 5) (s : State) : Host.Outcome State Fault Refusal :=
  settle s (rowWrite s 2 ⟨6, .ctl0, .one⟩ wc.toNat)

/-- WRITE_Mask_Spartan6 (R113). -/
def execWriteMaskSpartan6 (wc : BitVec 5) (s : State) : Host.Outcome State Fault Refusal :=
  settle s (rowWrite s 2 ⟨7, .mask, .one⟩ wc.toNat)

/-- WRITE_Lout_Spartan6 (R114). -/
def execWriteLoutSpartan6 (wc : BitVec 5) (s : State) : Host.Outcome State Fault Refusal :=
  settle s (rowWrite s 2 ⟨9, .lout, .one⟩ wc.toNat)

/-- WRITE_Cor1_Spartan6 (R116). -/
def execWriteCor1Spartan6 (wc : BitVec 5) (s : State) : Host.Outcome State Fault Refusal :=
  settle s (rowWrite s 2 ⟨10, .cor1, .one⟩ wc.toNat)

/-- WRITE_Cor2_Spartan6 (R117). -/
def execWriteCor2Spartan6 (wc : BitVec 5) (s : State) : Host.Outcome State Fault Refusal :=
  settle s (rowWrite s 2 ⟨11, .cor2, .one⟩ wc.toNat)

/-- WRITE_Pwrdn_Spartan6 (R128). -/
def execWritePwrdnSpartan6 (wc : BitVec 5) (s : State) : Host.Outcome State Fault Refusal :=
  settle s (rowWrite s 2 ⟨12, .pwrdn, .one⟩ wc.toNat)

/-- WRITE_Flr_Spartan6 (R118). -/
def execWriteFlrSpartan6 (wc : BitVec 5) (s : State) : Host.Outcome State Fault Refusal :=
  settle s (rowWrite s 2 ⟨13, .flr, .one⟩ wc.toNat)

/-- WRITE_Idcode_Spartan6 (R120). -/
def execWriteIdcodeSpartan6 (wc : BitVec 5) (s : State) : Host.Outcome State Fault Refusal :=
  settle s (rowWrite s 2 ⟨14, .idcode, .two⟩ wc.toNat)

/-- WRITE_Cwdt_Spartan6 (R143). -/
def execWriteCwdtSpartan6 (wc : BitVec 5) (s : State) : Host.Outcome State Fault Refusal :=
  settle s (rowWrite s 2 ⟨15, .cwdt, .one⟩ wc.toNat)

/-- WRITE_HcOpt_Spartan6 (R130). -/
def execWriteHcOptSpartan6 (wc : BitVec 5) (s : State) : Host.Outcome State Fault Refusal :=
  settle s (rowWrite s 2 ⟨16, .hcOpt, .one⟩ wc.toNat)

/-- WRITE_Csbo_Spartan6 (R123). -/
def execWriteCsboSpartan6 (wc : BitVec 5) (s : State) : Host.Outcome State Fault Refusal :=
  settle s (rowWrite s 2 ⟨18, .csbo, .one⟩ wc.toNat)

/-- WRITE_General1_Spartan6 (R131). -/
def execWriteGeneral1Spartan6 (wc : BitVec 5) (s : State) : Host.Outcome State Fault Refusal :=
  settle s (rowWrite s 2 ⟨19, .general1, .one⟩ wc.toNat)

/-- WRITE_General2_Spartan6 (R132). -/
def execWriteGeneral2Spartan6 (wc : BitVec 5) (s : State) : Host.Outcome State Fault Refusal :=
  settle s (rowWrite s 2 ⟨20, .general2, .one⟩ wc.toNat)

/-- WRITE_General3_Spartan6 (R133). -/
def execWriteGeneral3Spartan6 (wc : BitVec 5) (s : State) : Host.Outcome State Fault Refusal :=
  settle s (rowWrite s 2 ⟨21, .general3, .one⟩ wc.toNat)

/-- WRITE_General4_Spartan6 (R134). -/
def execWriteGeneral4Spartan6 (wc : BitVec 5) (s : State) : Host.Outcome State Fault Refusal :=
  settle s (rowWrite s 2 ⟨22, .general4, .one⟩ wc.toNat)

/-- WRITE_General5_Spartan6 (R135). -/
def execWriteGeneral5Spartan6 (wc : BitVec 5) (s : State) : Host.Outcome State Fault Refusal :=
  settle s (rowWrite s 2 ⟨23, .general5, .one⟩ wc.toNat)

/-- WRITE_Mode_Spartan6 (R136). -/
def execWriteModeSpartan6 (wc : BitVec 5) (s : State) : Host.Outcome State Fault Refusal :=
  settle s (rowWrite s 2 ⟨24, .mode, .one⟩ wc.toNat)

/-- WRITE_PuGwe_Spartan6 (R137). -/
def execWritePuGweSpartan6 (wc : BitVec 5) (s : State) : Host.Outcome State Fault Refusal :=
  settle s (rowWrite s 2 ⟨25, .puGwe, .one⟩ wc.toNat)

/-- WRITE_PuGts_Spartan6 (R138). -/
def execWritePuGtsSpartan6 (wc : BitVec 5) (s : State) : Host.Outcome State Fault Refusal :=
  settle s (rowWrite s 2 ⟨26, .puGts, .one⟩ wc.toNat)

/-- WRITE_Mfwr_Spartan6 (R105). -/
def execWriteMfwrSpartan6 (wc : BitVec 5) (s : State) : Host.Outcome State Fault Refusal :=
  settle s (rowWrite s 2 ⟨27, .mfwr, .var⟩ wc.toNat)

/-- WRITE_CclkFreq_Spartan6 (R139). -/
def execWriteCclkFreqSpartan6 (wc : BitVec 5) (s : State) : Host.Outcome State Fault Refusal :=
  settle s (rowWrite s 2 ⟨28, .cclkFreq, .one⟩ wc.toNat)

/-- WRITE_SeuOpt_Spartan6 (R140). -/
def execWriteSeuOptSpartan6 (wc : BitVec 5) (s : State) : Host.Outcome State Fault Refusal :=
  settle s (rowWrite s 2 ⟨29, .seuOpt, .one⟩ wc.toNat)

/-- WRITE_ExpSign_Spartan6 (R141). -/
def execWriteExpSignSpartan6 (wc : BitVec 5) (s : State) : Host.Outcome State Fault Refusal :=
  settle s (rowWrite s 2 ⟨30, .expSign, .one⟩ wc.toNat)

/-- WRITE_RdbkSign_Spartan6 (R142). -/
def execWriteRdbkSignSpartan6 (wc : BitVec 5) (s : State) : Host.Outcome State Fault Refusal :=
  settle s (rowWrite s 2 ⟨31, .rdbkSign, .one⟩ wc.toNat)

/-- WRITE_EyeMask_Spartan6 (R144). -/
def execWriteEyeMaskSpartan6 (wc : BitVec 5) (s : State) : Host.Outcome State Fault Refusal :=
  settle s (rowWrite s 2 ⟨33, .eyeMask, .one⟩ wc.toNat)

/-- WRITE_CbcReg_Spartan6 (R106). -/
def execWriteCbcRegSpartan6 (wc : BitVec 5) (s : State) : Host.Outcome State Fault Refusal :=
  settle s (rowWrite s 2 ⟨34, .cbcReg, .var⟩ wc.toNat)

end Sys2Proof.Machine
end

