-- ==== Sys2Proof/Syntax.lean ====
section
/-!
DEFINITION. The instructions: one constructor for each row of spec/opcode_table.json, named after the row's mnemonic.
An instruction is a packet's header (spec/30_encoding.md R60 to R66); the data words that follow it are no operands, the
meaning reads them from the buffer as the spec's procedures do. The `CMD_` rows hold their code word in the constructor's
name, since the row fixes it.
-/

namespace Sys2Proof

/-- The packets of the block, one constructor per row of the opcode table (R73). -/
inductive Instr where
  -- framing, Nop, the generic write headers, long writes (41_framing.md, 42_register_writes.md, 44_long_writes.md)
  | dummy32
  | dummy16
  | widthDetect
  | sync32
  | sync16
  | nop32
  | nop16
  | t1write32 (reg : BitVec 14) (ignored : BitVec 2) (wc : BitVec 11)
  | t1write16 (reg : BitVec 6) (wc : BitVec 5)
  | t2write (wc : BitVec 27)
  | lwrite (low : BitVec 11)
  | bugFdri
  | autoCrc (value : BitVec 32)
  -- Type-1 writes of VirtexOriginal, one per register of its table (R36 to R40)
  | writeCrcVirtexOriginal (ignored : BitVec 2) (wc : BitVec 11)
  | writeFarVirtexOriginal (ignored : BitVec 2) (wc : BitVec 11)
  | writeFdriVirtexOriginal (ignored : BitVec 2) (wc : BitVec 11)
  | writeCmdVirtexOriginal (ignored : BitVec 2) (wc : BitVec 11)
  | writeCtl0VirtexOriginal (ignored : BitVec 2) (wc : BitVec 11)
  | writeMaskVirtexOriginal (ignored : BitVec 2) (wc : BitVec 11)
  | writeLoutVirtexOriginal (ignored : BitVec 2) (wc : BitVec 11)
  | writeCor0VirtexOriginal (ignored : BitVec 2) (wc : BitVec 11)
  | writeFlrVirtexOriginal (ignored : BitVec 2) (wc : BitVec 11)
  -- Type-1 writes of VirtexII, one per register of its table (R36 to R40)
  | writeCrcVirtexII (ignored : BitVec 2) (wc : BitVec 11)
  | writeFarVirtexII (ignored : BitVec 2) (wc : BitVec 11)
  | writeFdriVirtexII (ignored : BitVec 2) (wc : BitVec 11)
  | writeCmdVirtexII (ignored : BitVec 2) (wc : BitVec 11)
  | writeCtl0VirtexII (ignored : BitVec 2) (wc : BitVec 11)
  | writeMaskVirtexII (ignored : BitVec 2) (wc : BitVec 11)
  | writeLoutVirtexII (ignored : BitVec 2) (wc : BitVec 11)
  | writeCor0VirtexII (ignored : BitVec 2) (wc : BitVec 11)
  | writeMfwrVirtexII (ignored : BitVec 2) (wc : BitVec 11)
  | writeFlrVirtexII (ignored : BitVec 2) (wc : BitVec 11)
  | writeKeyVirtexII (ignored : BitVec 2) (wc : BitVec 11)
  | writeCbcVirtexII (ignored : BitVec 2) (wc : BitVec 11)
  | writeIdcodeVirtexII (ignored : BitVec 2) (wc : BitVec 11)
  -- Type-1 writes of VirtexIVPlus, one per register of its table (R36 to R40)
  | writeCrcVirtexIVPlus (ignored : BitVec 2) (wc : BitVec 11)
  | writeFarVirtexIVPlus (ignored : BitVec 2) (wc : BitVec 11)
  | writeFdriVirtexIVPlus (ignored : BitVec 2) (wc : BitVec 11)
  | writeCmdVirtexIVPlus (ignored : BitVec 2) (wc : BitVec 11)
  | writeCtl0VirtexIVPlus (ignored : BitVec 2) (wc : BitVec 11)
  | writeMaskVirtexIVPlus (ignored : BitVec 2) (wc : BitVec 11)
  | writeLoutVirtexIVPlus (ignored : BitVec 2) (wc : BitVec 11)
  | writeCor0VirtexIVPlus (ignored : BitVec 2) (wc : BitVec 11)
  | writeMfwrVirtexIVPlus (ignored : BitVec 2) (wc : BitVec 11)
  | writeCbcVirtexIVPlus (ignored : BitVec 2) (wc : BitVec 11)
  | writeIdcodeVirtexIVPlus (ignored : BitVec 2) (wc : BitVec 11)
  | writeAxssVirtexIVPlus (ignored : BitVec 2) (wc : BitVec 11)
  | writeCor1VirtexIVPlus (ignored : BitVec 2) (wc : BitVec 11)
  | writeCsobVirtexIVPlus (ignored : BitVec 2) (wc : BitVec 11)
  | writeWbstarVirtexIVPlus (ignored : BitVec 2) (wc : BitVec 11)
  | writeTimerVirtexIVPlus (ignored : BitVec 2) (wc : BitVec 11)
  | writeRbcrcSwVirtexIVPlus (ignored : BitVec 2) (wc : BitVec 11)
  | writeCtl1VirtexIVPlus (ignored : BitVec 2) (wc : BitVec 11)
  | writeBspiVirtexIVPlus (ignored : BitVec 2) (wc : BitVec 11)
  -- Type-1 writes of Spartan3A, one per register of its table (R36 to R40)
  | writeCrcSpartan3A (wc : BitVec 5)
  | writeFarMajSpartan3A (wc : BitVec 5)
  | writeFarMinSpartan3A (wc : BitVec 5)
  | writeFdriSpartan3A (wc : BitVec 5)
  | writeCmdSpartan3A (wc : BitVec 5)
  | writeCtl0Spartan3A (wc : BitVec 5)
  | writeMaskSpartan3A (wc : BitVec 5)
  | writeLoutSpartan3A (wc : BitVec 5)
  | writeCor1Spartan3A (wc : BitVec 5)
  | writeCor2Spartan3A (wc : BitVec 5)
  | writePwrdnSpartan3A (wc : BitVec 5)
  | writeFlrSpartan3A (wc : BitVec 5)
  | writeIdcodeSpartan3A (wc : BitVec 5)
  | writeSnowplowSpartan3A (wc : BitVec 5)
  | writeHcOptSpartan3A (wc : BitVec 5)
  | writeCsboSpartan3A (wc : BitVec 5)
  | writeGeneral1Spartan3A (wc : BitVec 5)
  | writeGeneral2Spartan3A (wc : BitVec 5)
  | writeModeSpartan3A (wc : BitVec 5)
  | writePuGweSpartan3A (wc : BitVec 5)
  | writePuGtsSpartan3A (wc : BitVec 5)
  | writeMfwrSpartan3A (wc : BitVec 5)
  | writeCclkFreqSpartan3A (wc : BitVec 5)
  | writeSeuOptSpartan3A (wc : BitVec 5)
  | writeExpSignSpartan3A (wc : BitVec 5)
  | writeRdbkSignSpartan3A (wc : BitVec 5)
  -- Type-1 writes of Spartan6, one per register of its table (R36 to R40)
  | writeCrcSpartan6 (wc : BitVec 5)
  | writeFarMajSpartan6 (wc : BitVec 5)
  | writeFarMinSpartan6 (wc : BitVec 5)
  | writeFdriSpartan6 (wc : BitVec 5)
  | writeCmdSpartan6 (wc : BitVec 5)
  | writeCtl0Spartan6 (wc : BitVec 5)
  | writeMaskSpartan6 (wc : BitVec 5)
  | writeLoutSpartan6 (wc : BitVec 5)
  | writeCor1Spartan6 (wc : BitVec 5)
  | writeCor2Spartan6 (wc : BitVec 5)
  | writePwrdnSpartan6 (wc : BitVec 5)
  | writeFlrSpartan6 (wc : BitVec 5)
  | writeIdcodeSpartan6 (wc : BitVec 5)
  | writeCwdtSpartan6 (wc : BitVec 5)
  | writeHcOptSpartan6 (wc : BitVec 5)
  | writeCsboSpartan6 (wc : BitVec 5)
  | writeGeneral1Spartan6 (wc : BitVec 5)
  | writeGeneral2Spartan6 (wc : BitVec 5)
  | writeGeneral3Spartan6 (wc : BitVec 5)
  | writeGeneral4Spartan6 (wc : BitVec 5)
  | writeGeneral5Spartan6 (wc : BitVec 5)
  | writeModeSpartan6 (wc : BitVec 5)
  | writePuGweSpartan6 (wc : BitVec 5)
  | writePuGtsSpartan6 (wc : BitVec 5)
  | writeMfwrSpartan6 (wc : BitVec 5)
  | writeCclkFreqSpartan6 (wc : BitVec 5)
  | writeSeuOptSpartan6 (wc : BitVec 5)
  | writeExpSignSpartan6 (wc : BitVec 5)
  | writeRdbkSignSpartan6 (wc : BitVec 5)
  | writeEyeMaskSpartan6 (wc : BitVec 5)
  | writeCbcRegSpartan6 (wc : BitVec 5)
  -- one-word writes of a command code of VirtexOriginal (R146)
  | cmdNullVirtexOriginal (ignored : BitVec 2)
  | cmdWcfgVirtexOriginal (ignored : BitVec 2)
  | cmdLfrmVirtexOriginal (ignored : BitVec 2)
  | cmdRcfgVirtexOriginal (ignored : BitVec 2)
  | cmdStartVirtexOriginal (ignored : BitVec 2)
  | cmdRcapVirtexOriginal (ignored : BitVec 2)
  | cmdRcrcVirtexOriginal (ignored : BitVec 2)
  | cmdAghighVirtexOriginal (ignored : BitVec 2)
  | cmdSwitchVirtexOriginal (ignored : BitVec 2)
  -- one-word writes of a command code of VirtexII (R146)
  | cmdNullVirtexII (ignored : BitVec 2)
  | cmdWcfgVirtexII (ignored : BitVec 2)
  | cmdMfwrVirtexII (ignored : BitVec 2)
  | cmdLfrmVirtexII (ignored : BitVec 2)
  | cmdRcfgVirtexII (ignored : BitVec 2)
  | cmdStartVirtexII (ignored : BitVec 2)
  | cmdRcapVirtexII (ignored : BitVec 2)
  | cmdRcrcVirtexII (ignored : BitVec 2)
  | cmdAghighVirtexII (ignored : BitVec 2)
  | cmdSwitchVirtexII (ignored : BitVec 2)
  | cmdGrestoreVirtexII (ignored : BitVec 2)
  | cmdShutdownVirtexII (ignored : BitVec 2)
  | cmdGcaptureVirtexII (ignored : BitVec 2)
  | cmdDesynchVirtexII (ignored : BitVec 2)
  -- one-word writes of a command code of VirtexIVPlus (R146)
  | cmdNullVirtexIVPlus (ignored : BitVec 2)
  | cmdWcfgVirtexIVPlus (ignored : BitVec 2)
  | cmdMfwrVirtexIVPlus (ignored : BitVec 2)
  | cmdLfrmVirtexIVPlus (ignored : BitVec 2)
  | cmdRcfgVirtexIVPlus (ignored : BitVec 2)
  | cmdStartVirtexIVPlus (ignored : BitVec 2)
  | cmdRcapVirtexIVPlus (ignored : BitVec 2)
  | cmdRcrcVirtexIVPlus (ignored : BitVec 2)
  | cmdAghighVirtexIVPlus (ignored : BitVec 2)
  | cmdSwitchVirtexIVPlus (ignored : BitVec 2)
  | cmdGrestoreVirtexIVPlus (ignored : BitVec 2)
  | cmdShutdownVirtexIVPlus (ignored : BitVec 2)
  | cmdGcaptureVirtexIVPlus (ignored : BitVec 2)
  | cmdDesynchVirtexIVPlus (ignored : BitVec 2)
  | cmdIprogVirtexIVPlus (ignored : BitVec 2)
  | cmdCrccVirtexIVPlus (ignored : BitVec 2)
  | cmdLtimerVirtexIVPlus (ignored : BitVec 2)
  | cmdBspiReadVirtexIVPlus (ignored : BitVec 2)
  | cmdFallEdgeVirtexIVPlus (ignored : BitVec 2)
  -- one-word writes of a command code of Spartan3A (R146)
  | cmdNullSpartan3A
  | cmdWcfgSpartan3A
  | cmdMfwrSpartan3A
  | cmdLfrmSpartan3A
  | cmdRcfgSpartan3A
  | cmdStartSpartan3A
  | cmdRcrcSpartan3A
  | cmdAghighSpartan3A
  | cmdGrestoreSpartan3A
  | cmdShutdownSpartan3A
  | cmdDesynchSpartan3A
  | cmdIprogSpartan3A
  -- one-word writes of a command code of Spartan6 (R146)
  | cmdNullSpartan6
  | cmdWcfgSpartan6
  | cmdMfwrSpartan6
  | cmdLfrmSpartan6
  | cmdRcfgSpartan6
  | cmdStartSpartan6
  | cmdRcrcSpartan6
  | cmdAghighSpartan6
  | cmdGrestoreSpartan6
  | cmdShutdownSpartan6
  | cmdDesynchSpartan6
  | cmdIprogSpartan6
deriving DecidableEq, Repr

end Sys2Proof
end

