-- ==== Sys2Proof/Machine/Dispatch.lean ====
section
/-!
DEFINITION. The dispatch: one arm per row of spec/opcode_table.json, each a direct call of the row's meaning.
-/

namespace Sys2Proof.Machine

def exec (i : Instr) (s : State) : Host.Outcome State Fault Refusal :=
  match i with
  | .dummy32 => Sys2Proof.Machine.execDummy32 s
  | .dummy16 => Sys2Proof.Machine.execDummy16 s
  | .widthDetect => Sys2Proof.Machine.execWidthDetect s
  | .sync32 => Sys2Proof.Machine.execSync32 s
  | .sync16 => Sys2Proof.Machine.execSync16 s
  | .nop32 => Sys2Proof.Machine.execNop32 s
  | .nop16 => Sys2Proof.Machine.execNop16 s
  | .t1write32 reg _ wc => Sys2Proof.Machine.execT1write32 reg wc s
  | .t1write16 reg wc => Sys2Proof.Machine.execT1write16 reg wc s
  | .t2write wc => Sys2Proof.Machine.execT2write wc s
  | .lwrite low => Sys2Proof.Machine.execLwrite low s
  | .bugFdri => Sys2Proof.Machine.execBugFdri s
  | .autoCrc value => Sys2Proof.Machine.execAutoCrc value s
  | .writeCrcVirtexOriginal _ wc => Sys2Proof.Machine.execWriteCrcVirtexOriginal wc s
  | .writeFarVirtexOriginal _ wc => Sys2Proof.Machine.execWriteFarVirtexOriginal wc s
  | .writeFdriVirtexOriginal _ wc => Sys2Proof.Machine.execWriteFdriVirtexOriginal wc s
  | .writeCmdVirtexOriginal _ wc => Sys2Proof.Machine.execWriteCmdVirtexOriginal wc s
  | .writeCtl0VirtexOriginal _ wc => Sys2Proof.Machine.execWriteCtl0VirtexOriginal wc s
  | .writeMaskVirtexOriginal _ wc => Sys2Proof.Machine.execWriteMaskVirtexOriginal wc s
  | .writeLoutVirtexOriginal _ wc => Sys2Proof.Machine.execWriteLoutVirtexOriginal wc s
  | .writeCor0VirtexOriginal _ wc => Sys2Proof.Machine.execWriteCor0VirtexOriginal wc s
  | .writeFlrVirtexOriginal _ wc => Sys2Proof.Machine.execWriteFlrVirtexOriginal wc s
  | .writeCrcVirtexII _ wc => Sys2Proof.Machine.execWriteCrcVirtexII wc s
  | .writeFarVirtexII _ wc => Sys2Proof.Machine.execWriteFarVirtexII wc s
  | .writeFdriVirtexII _ wc => Sys2Proof.Machine.execWriteFdriVirtexII wc s
  | .writeCmdVirtexII _ wc => Sys2Proof.Machine.execWriteCmdVirtexII wc s
  | .writeCtl0VirtexII _ wc => Sys2Proof.Machine.execWriteCtl0VirtexII wc s
  | .writeMaskVirtexII _ wc => Sys2Proof.Machine.execWriteMaskVirtexII wc s
  | .writeLoutVirtexII _ wc => Sys2Proof.Machine.execWriteLoutVirtexII wc s
  | .writeCor0VirtexII _ wc => Sys2Proof.Machine.execWriteCor0VirtexII wc s
  | .writeMfwrVirtexII _ wc => Sys2Proof.Machine.execWriteMfwrVirtexII wc s
  | .writeFlrVirtexII _ wc => Sys2Proof.Machine.execWriteFlrVirtexII wc s
  | .writeKeyVirtexII _ wc => Sys2Proof.Machine.execWriteKeyVirtexII wc s
  | .writeCbcVirtexII _ wc => Sys2Proof.Machine.execWriteCbcVirtexII wc s
  | .writeIdcodeVirtexII _ wc => Sys2Proof.Machine.execWriteIdcodeVirtexII wc s
  | .writeCrcVirtexIVPlus _ wc => Sys2Proof.Machine.execWriteCrcVirtexIVPlus wc s
  | .writeFarVirtexIVPlus _ wc => Sys2Proof.Machine.execWriteFarVirtexIVPlus wc s
  | .writeFdriVirtexIVPlus _ wc => Sys2Proof.Machine.execWriteFdriVirtexIVPlus wc s
  | .writeCmdVirtexIVPlus _ wc => Sys2Proof.Machine.execWriteCmdVirtexIVPlus wc s
  | .writeCtl0VirtexIVPlus _ wc => Sys2Proof.Machine.execWriteCtl0VirtexIVPlus wc s
  | .writeMaskVirtexIVPlus _ wc => Sys2Proof.Machine.execWriteMaskVirtexIVPlus wc s
  | .writeLoutVirtexIVPlus _ wc => Sys2Proof.Machine.execWriteLoutVirtexIVPlus wc s
  | .writeCor0VirtexIVPlus _ wc => Sys2Proof.Machine.execWriteCor0VirtexIVPlus wc s
  | .writeMfwrVirtexIVPlus _ wc => Sys2Proof.Machine.execWriteMfwrVirtexIVPlus wc s
  | .writeCbcVirtexIVPlus _ wc => Sys2Proof.Machine.execWriteCbcVirtexIVPlus wc s
  | .writeIdcodeVirtexIVPlus _ wc => Sys2Proof.Machine.execWriteIdcodeVirtexIVPlus wc s
  | .writeAxssVirtexIVPlus _ wc => Sys2Proof.Machine.execWriteAxssVirtexIVPlus wc s
  | .writeCor1VirtexIVPlus _ wc => Sys2Proof.Machine.execWriteCor1VirtexIVPlus wc s
  | .writeCsobVirtexIVPlus _ wc => Sys2Proof.Machine.execWriteCsobVirtexIVPlus wc s
  | .writeWbstarVirtexIVPlus _ wc => Sys2Proof.Machine.execWriteWbstarVirtexIVPlus wc s
  | .writeTimerVirtexIVPlus _ wc => Sys2Proof.Machine.execWriteTimerVirtexIVPlus wc s
  | .writeRbcrcSwVirtexIVPlus _ wc => Sys2Proof.Machine.execWriteRbcrcSwVirtexIVPlus wc s
  | .writeCtl1VirtexIVPlus _ wc => Sys2Proof.Machine.execWriteCtl1VirtexIVPlus wc s
  | .writeBspiVirtexIVPlus _ wc => Sys2Proof.Machine.execWriteBspiVirtexIVPlus wc s
  | .writeCrcSpartan3A wc => Sys2Proof.Machine.execWriteCrcSpartan3A wc s
  | .writeFarMajSpartan3A wc => Sys2Proof.Machine.execWriteFarMajSpartan3A wc s
  | .writeFarMinSpartan3A wc => Sys2Proof.Machine.execWriteFarMinSpartan3A wc s
  | .writeFdriSpartan3A wc => Sys2Proof.Machine.execWriteFdriSpartan3A wc s
  | .writeCmdSpartan3A wc => Sys2Proof.Machine.execWriteCmdSpartan3A wc s
  | .writeCtl0Spartan3A wc => Sys2Proof.Machine.execWriteCtl0Spartan3A wc s
  | .writeMaskSpartan3A wc => Sys2Proof.Machine.execWriteMaskSpartan3A wc s
  | .writeLoutSpartan3A wc => Sys2Proof.Machine.execWriteLoutSpartan3A wc s
  | .writeCor1Spartan3A wc => Sys2Proof.Machine.execWriteCor1Spartan3A wc s
  | .writeCor2Spartan3A wc => Sys2Proof.Machine.execWriteCor2Spartan3A wc s
  | .writePwrdnSpartan3A wc => Sys2Proof.Machine.execWritePwrdnSpartan3A wc s
  | .writeFlrSpartan3A wc => Sys2Proof.Machine.execWriteFlrSpartan3A wc s
  | .writeIdcodeSpartan3A wc => Sys2Proof.Machine.execWriteIdcodeSpartan3A wc s
  | .writeSnowplowSpartan3A wc => Sys2Proof.Machine.execWriteSnowplowSpartan3A wc s
  | .writeHcOptSpartan3A wc => Sys2Proof.Machine.execWriteHcOptSpartan3A wc s
  | .writeCsboSpartan3A wc => Sys2Proof.Machine.execWriteCsboSpartan3A wc s
  | .writeGeneral1Spartan3A wc => Sys2Proof.Machine.execWriteGeneral1Spartan3A wc s
  | .writeGeneral2Spartan3A wc => Sys2Proof.Machine.execWriteGeneral2Spartan3A wc s
  | .writeModeSpartan3A wc => Sys2Proof.Machine.execWriteModeSpartan3A wc s
  | .writePuGweSpartan3A wc => Sys2Proof.Machine.execWritePuGweSpartan3A wc s
  | .writePuGtsSpartan3A wc => Sys2Proof.Machine.execWritePuGtsSpartan3A wc s
  | .writeMfwrSpartan3A wc => Sys2Proof.Machine.execWriteMfwrSpartan3A wc s
  | .writeCclkFreqSpartan3A wc => Sys2Proof.Machine.execWriteCclkFreqSpartan3A wc s
  | .writeSeuOptSpartan3A wc => Sys2Proof.Machine.execWriteSeuOptSpartan3A wc s
  | .writeExpSignSpartan3A wc => Sys2Proof.Machine.execWriteExpSignSpartan3A wc s
  | .writeRdbkSignSpartan3A wc => Sys2Proof.Machine.execWriteRdbkSignSpartan3A wc s
  | .writeCrcSpartan6 wc => Sys2Proof.Machine.execWriteCrcSpartan6 wc s
  | .writeFarMajSpartan6 wc => Sys2Proof.Machine.execWriteFarMajSpartan6 wc s
  | .writeFarMinSpartan6 wc => Sys2Proof.Machine.execWriteFarMinSpartan6 wc s
  | .writeFdriSpartan6 wc => Sys2Proof.Machine.execWriteFdriSpartan6 wc s
  | .writeCmdSpartan6 wc => Sys2Proof.Machine.execWriteCmdSpartan6 wc s
  | .writeCtl0Spartan6 wc => Sys2Proof.Machine.execWriteCtl0Spartan6 wc s
  | .writeMaskSpartan6 wc => Sys2Proof.Machine.execWriteMaskSpartan6 wc s
  | .writeLoutSpartan6 wc => Sys2Proof.Machine.execWriteLoutSpartan6 wc s
  | .writeCor1Spartan6 wc => Sys2Proof.Machine.execWriteCor1Spartan6 wc s
  | .writeCor2Spartan6 wc => Sys2Proof.Machine.execWriteCor2Spartan6 wc s
  | .writePwrdnSpartan6 wc => Sys2Proof.Machine.execWritePwrdnSpartan6 wc s
  | .writeFlrSpartan6 wc => Sys2Proof.Machine.execWriteFlrSpartan6 wc s
  | .writeIdcodeSpartan6 wc => Sys2Proof.Machine.execWriteIdcodeSpartan6 wc s
  | .writeCwdtSpartan6 wc => Sys2Proof.Machine.execWriteCwdtSpartan6 wc s
  | .writeHcOptSpartan6 wc => Sys2Proof.Machine.execWriteHcOptSpartan6 wc s
  | .writeCsboSpartan6 wc => Sys2Proof.Machine.execWriteCsboSpartan6 wc s
  | .writeGeneral1Spartan6 wc => Sys2Proof.Machine.execWriteGeneral1Spartan6 wc s
  | .writeGeneral2Spartan6 wc => Sys2Proof.Machine.execWriteGeneral2Spartan6 wc s
  | .writeGeneral3Spartan6 wc => Sys2Proof.Machine.execWriteGeneral3Spartan6 wc s
  | .writeGeneral4Spartan6 wc => Sys2Proof.Machine.execWriteGeneral4Spartan6 wc s
  | .writeGeneral5Spartan6 wc => Sys2Proof.Machine.execWriteGeneral5Spartan6 wc s
  | .writeModeSpartan6 wc => Sys2Proof.Machine.execWriteModeSpartan6 wc s
  | .writePuGweSpartan6 wc => Sys2Proof.Machine.execWritePuGweSpartan6 wc s
  | .writePuGtsSpartan6 wc => Sys2Proof.Machine.execWritePuGtsSpartan6 wc s
  | .writeMfwrSpartan6 wc => Sys2Proof.Machine.execWriteMfwrSpartan6 wc s
  | .writeCclkFreqSpartan6 wc => Sys2Proof.Machine.execWriteCclkFreqSpartan6 wc s
  | .writeSeuOptSpartan6 wc => Sys2Proof.Machine.execWriteSeuOptSpartan6 wc s
  | .writeExpSignSpartan6 wc => Sys2Proof.Machine.execWriteExpSignSpartan6 wc s
  | .writeRdbkSignSpartan6 wc => Sys2Proof.Machine.execWriteRdbkSignSpartan6 wc s
  | .writeEyeMaskSpartan6 wc => Sys2Proof.Machine.execWriteEyeMaskSpartan6 wc s
  | .writeCbcRegSpartan6 wc => Sys2Proof.Machine.execWriteCbcRegSpartan6 wc s
  | .cmdNullVirtexOriginal _ => Sys2Proof.Machine.execCmdNullVirtexOriginal s
  | .cmdWcfgVirtexOriginal _ => Sys2Proof.Machine.execCmdWcfgVirtexOriginal s
  | .cmdLfrmVirtexOriginal _ => Sys2Proof.Machine.execCmdLfrmVirtexOriginal s
  | .cmdRcfgVirtexOriginal _ => Sys2Proof.Machine.execCmdRcfgVirtexOriginal s
  | .cmdStartVirtexOriginal _ => Sys2Proof.Machine.execCmdStartVirtexOriginal s
  | .cmdRcapVirtexOriginal _ => Sys2Proof.Machine.execCmdRcapVirtexOriginal s
  | .cmdRcrcVirtexOriginal _ => Sys2Proof.Machine.execCmdRcrcVirtexOriginal s
  | .cmdAghighVirtexOriginal _ => Sys2Proof.Machine.execCmdAghighVirtexOriginal s
  | .cmdSwitchVirtexOriginal _ => Sys2Proof.Machine.execCmdSwitchVirtexOriginal s
  | .cmdNullVirtexII _ => Sys2Proof.Machine.execCmdNullVirtexII s
  | .cmdWcfgVirtexII _ => Sys2Proof.Machine.execCmdWcfgVirtexII s
  | .cmdMfwrVirtexII _ => Sys2Proof.Machine.execCmdMfwrVirtexII s
  | .cmdLfrmVirtexII _ => Sys2Proof.Machine.execCmdLfrmVirtexII s
  | .cmdRcfgVirtexII _ => Sys2Proof.Machine.execCmdRcfgVirtexII s
  | .cmdStartVirtexII _ => Sys2Proof.Machine.execCmdStartVirtexII s
  | .cmdRcapVirtexII _ => Sys2Proof.Machine.execCmdRcapVirtexII s
  | .cmdRcrcVirtexII _ => Sys2Proof.Machine.execCmdRcrcVirtexII s
  | .cmdAghighVirtexII _ => Sys2Proof.Machine.execCmdAghighVirtexII s
  | .cmdSwitchVirtexII _ => Sys2Proof.Machine.execCmdSwitchVirtexII s
  | .cmdGrestoreVirtexII _ => Sys2Proof.Machine.execCmdGrestoreVirtexII s
  | .cmdShutdownVirtexII _ => Sys2Proof.Machine.execCmdShutdownVirtexII s
  | .cmdGcaptureVirtexII _ => Sys2Proof.Machine.execCmdGcaptureVirtexII s
  | .cmdDesynchVirtexII _ => Sys2Proof.Machine.execCmdDesynchVirtexII s
  | .cmdNullVirtexIVPlus _ => Sys2Proof.Machine.execCmdNullVirtexIVPlus s
  | .cmdWcfgVirtexIVPlus _ => Sys2Proof.Machine.execCmdWcfgVirtexIVPlus s
  | .cmdMfwrVirtexIVPlus _ => Sys2Proof.Machine.execCmdMfwrVirtexIVPlus s
  | .cmdLfrmVirtexIVPlus _ => Sys2Proof.Machine.execCmdLfrmVirtexIVPlus s
  | .cmdRcfgVirtexIVPlus _ => Sys2Proof.Machine.execCmdRcfgVirtexIVPlus s
  | .cmdStartVirtexIVPlus _ => Sys2Proof.Machine.execCmdStartVirtexIVPlus s
  | .cmdRcapVirtexIVPlus _ => Sys2Proof.Machine.execCmdRcapVirtexIVPlus s
  | .cmdRcrcVirtexIVPlus _ => Sys2Proof.Machine.execCmdRcrcVirtexIVPlus s
  | .cmdAghighVirtexIVPlus _ => Sys2Proof.Machine.execCmdAghighVirtexIVPlus s
  | .cmdSwitchVirtexIVPlus _ => Sys2Proof.Machine.execCmdSwitchVirtexIVPlus s
  | .cmdGrestoreVirtexIVPlus _ => Sys2Proof.Machine.execCmdGrestoreVirtexIVPlus s
  | .cmdShutdownVirtexIVPlus _ => Sys2Proof.Machine.execCmdShutdownVirtexIVPlus s
  | .cmdGcaptureVirtexIVPlus _ => Sys2Proof.Machine.execCmdGcaptureVirtexIVPlus s
  | .cmdDesynchVirtexIVPlus _ => Sys2Proof.Machine.execCmdDesynchVirtexIVPlus s
  | .cmdIprogVirtexIVPlus _ => Sys2Proof.Machine.execCmdIprogVirtexIVPlus s
  | .cmdCrccVirtexIVPlus _ => Sys2Proof.Machine.execCmdCrccVirtexIVPlus s
  | .cmdLtimerVirtexIVPlus _ => Sys2Proof.Machine.execCmdLtimerVirtexIVPlus s
  | .cmdBspiReadVirtexIVPlus _ => Sys2Proof.Machine.execCmdBspiReadVirtexIVPlus s
  | .cmdFallEdgeVirtexIVPlus _ => Sys2Proof.Machine.execCmdFallEdgeVirtexIVPlus s
  | .cmdNullSpartan3A => Sys2Proof.Machine.execCmdNullSpartan3A s
  | .cmdWcfgSpartan3A => Sys2Proof.Machine.execCmdWcfgSpartan3A s
  | .cmdMfwrSpartan3A => Sys2Proof.Machine.execCmdMfwrSpartan3A s
  | .cmdLfrmSpartan3A => Sys2Proof.Machine.execCmdLfrmSpartan3A s
  | .cmdRcfgSpartan3A => Sys2Proof.Machine.execCmdRcfgSpartan3A s
  | .cmdStartSpartan3A => Sys2Proof.Machine.execCmdStartSpartan3A s
  | .cmdRcrcSpartan3A => Sys2Proof.Machine.execCmdRcrcSpartan3A s
  | .cmdAghighSpartan3A => Sys2Proof.Machine.execCmdAghighSpartan3A s
  | .cmdGrestoreSpartan3A => Sys2Proof.Machine.execCmdGrestoreSpartan3A s
  | .cmdShutdownSpartan3A => Sys2Proof.Machine.execCmdShutdownSpartan3A s
  | .cmdDesynchSpartan3A => Sys2Proof.Machine.execCmdDesynchSpartan3A s
  | .cmdIprogSpartan3A => Sys2Proof.Machine.execCmdIprogSpartan3A s
  | .cmdNullSpartan6 => Sys2Proof.Machine.execCmdNullSpartan6 s
  | .cmdWcfgSpartan6 => Sys2Proof.Machine.execCmdWcfgSpartan6 s
  | .cmdMfwrSpartan6 => Sys2Proof.Machine.execCmdMfwrSpartan6 s
  | .cmdLfrmSpartan6 => Sys2Proof.Machine.execCmdLfrmSpartan6 s
  | .cmdRcfgSpartan6 => Sys2Proof.Machine.execCmdRcfgSpartan6 s
  | .cmdStartSpartan6 => Sys2Proof.Machine.execCmdStartSpartan6 s
  | .cmdRcrcSpartan6 => Sys2Proof.Machine.execCmdRcrcSpartan6 s
  | .cmdAghighSpartan6 => Sys2Proof.Machine.execCmdAghighSpartan6 s
  | .cmdGrestoreSpartan6 => Sys2Proof.Machine.execCmdGrestoreSpartan6 s
  | .cmdShutdownSpartan6 => Sys2Proof.Machine.execCmdShutdownSpartan6 s
  | .cmdDesynchSpartan6 => Sys2Proof.Machine.execCmdDesynchSpartan6 s
  | .cmdIprogSpartan6 => Sys2Proof.Machine.execCmdIprogSpartan6 s

end Sys2Proof.Machine
end

