-- ==== Sys2Proof/WellFormed.lean ====
section
/-!
DEFINITION. Which instructions a session can meet: the word width, the kind of a row and the session's tables must fit the
row (spec/30_encoding.md R59, R73). `decode` of the encoding of a well-formed instruction is that instruction.
-/

namespace Sys2Proof

/-- What an instruction's row of the opcode table fixes (R73). -/
inductive Form where
  /-- A header word of the 32-bit kinds. -/
  | word32
  /-- A header word of the 16-bit kinds. -/
  | word16
  /-- The generic Type-1 header of the 32-bit kinds, with its register id. -/
  | type1Wide (reg : RegId)
  /-- The generic Type-1 header of the 16-bit kinds, with its register id. -/
  | type1Narrow (reg : RegId)
  /-- The word after the data of a long write to Fdri (R173). -/
  | afterFdri
  /-- A `WRITE_` row: its kind and its register table entry (R36 to R40). -/
  | write (k : DeviceKind) (e : RegEntry)
  /-- A `CMD_` row: its kind and its command table entry (R146). -/
  | command (k : DeviceKind) (e : CmdEntry)
deriving DecidableEq, Repr

/-- The form of an instruction, row by row. -/
def Instr.form : Instr → Form
  | .dummy32 => .word32
  | .dummy16 => .word16
  | .widthDetect => .word32
  | .sync32 => .word32
  | .sync16 => .word16
  | .nop32 => .word32
  | .nop16 => .word16
  | .t1write32 reg _ _ => .type1Wide reg.toNat
  | .t1write16 reg _ => .type1Narrow reg.toNat
  | .t2write _ => .word32
  | .lwrite _ => .word16
  | .bugFdri => .word32
  | .autoCrc _ => .afterFdri
  | .writeCrcVirtexOriginal _ _ => .write .virtexOriginal ⟨0, .crc, .one⟩
  | .writeFarVirtexOriginal _ _ => .write .virtexOriginal ⟨1, .far, .one⟩
  | .writeFdriVirtexOriginal _ _ => .write .virtexOriginal ⟨2, .fdri, .var⟩
  | .writeCmdVirtexOriginal _ _ => .write .virtexOriginal ⟨4, .cmd, .one⟩
  | .writeCtl0VirtexOriginal _ _ => .write .virtexOriginal ⟨5, .ctl0, .one⟩
  | .writeMaskVirtexOriginal _ _ => .write .virtexOriginal ⟨6, .mask, .one⟩
  | .writeLoutVirtexOriginal _ _ => .write .virtexOriginal ⟨8, .lout, .one⟩
  | .writeCor0VirtexOriginal _ _ => .write .virtexOriginal ⟨9, .cor0, .one⟩
  | .writeFlrVirtexOriginal _ _ => .write .virtexOriginal ⟨11, .flr, .one⟩
  | .writeCrcVirtexII _ _ => .write .virtexII ⟨0, .crc, .one⟩
  | .writeFarVirtexII _ _ => .write .virtexII ⟨1, .far, .one⟩
  | .writeFdriVirtexII _ _ => .write .virtexII ⟨2, .fdri, .var⟩
  | .writeCmdVirtexII _ _ => .write .virtexII ⟨4, .cmd, .one⟩
  | .writeCtl0VirtexII _ _ => .write .virtexII ⟨5, .ctl0, .one⟩
  | .writeMaskVirtexII _ _ => .write .virtexII ⟨6, .mask, .one⟩
  | .writeLoutVirtexII _ _ => .write .virtexII ⟨8, .lout, .one⟩
  | .writeCor0VirtexII _ _ => .write .virtexII ⟨9, .cor0, .one⟩
  | .writeMfwrVirtexII _ _ => .write .virtexII ⟨10, .mfwr, .var⟩
  | .writeFlrVirtexII _ _ => .write .virtexII ⟨11, .flr, .one⟩
  | .writeKeyVirtexII _ _ => .write .virtexII ⟨12, .key, .one⟩
  | .writeCbcVirtexII _ _ => .write .virtexII ⟨13, .cbc, .var⟩
  | .writeIdcodeVirtexII _ _ => .write .virtexII ⟨14, .idcode, .one⟩
  | .writeCrcVirtexIVPlus _ _ => .write .virtexIVPlus ⟨0, .crc, .one⟩
  | .writeFarVirtexIVPlus _ _ => .write .virtexIVPlus ⟨1, .far, .one⟩
  | .writeFdriVirtexIVPlus _ _ => .write .virtexIVPlus ⟨2, .fdri, .var⟩
  | .writeCmdVirtexIVPlus _ _ => .write .virtexIVPlus ⟨4, .cmd, .one⟩
  | .writeCtl0VirtexIVPlus _ _ => .write .virtexIVPlus ⟨5, .ctl0, .one⟩
  | .writeMaskVirtexIVPlus _ _ => .write .virtexIVPlus ⟨6, .mask, .one⟩
  | .writeLoutVirtexIVPlus _ _ => .write .virtexIVPlus ⟨8, .lout, .one⟩
  | .writeCor0VirtexIVPlus _ _ => .write .virtexIVPlus ⟨9, .cor0, .one⟩
  | .writeMfwrVirtexIVPlus _ _ => .write .virtexIVPlus ⟨10, .mfwr, .var⟩
  | .writeCbcVirtexIVPlus _ _ => .write .virtexIVPlus ⟨11, .cbc, .var⟩
  | .writeIdcodeVirtexIVPlus _ _ => .write .virtexIVPlus ⟨12, .idcode, .one⟩
  | .writeAxssVirtexIVPlus _ _ => .write .virtexIVPlus ⟨13, .axss, .one⟩
  | .writeCor1VirtexIVPlus _ _ => .write .virtexIVPlus ⟨14, .cor1, .one⟩
  | .writeCsobVirtexIVPlus _ _ => .write .virtexIVPlus ⟨15, .csob, .one⟩
  | .writeWbstarVirtexIVPlus _ _ => .write .virtexIVPlus ⟨16, .wbstar, .one⟩
  | .writeTimerVirtexIVPlus _ _ => .write .virtexIVPlus ⟨17, .timer, .one⟩
  | .writeRbcrcSwVirtexIVPlus _ _ => .write .virtexIVPlus ⟨19, .rbcrcSw, .one⟩
  | .writeCtl1VirtexIVPlus _ _ => .write .virtexIVPlus ⟨24, .ctl1, .one⟩
  | .writeBspiVirtexIVPlus _ _ => .write .virtexIVPlus ⟨31, .bspi, .one⟩
  | .writeCrcSpartan3A _ => .write .spartan3A ⟨0, .crc, .two⟩
  | .writeFarMajSpartan3A _ => .write .spartan3A ⟨1, .farMaj, .one⟩
  | .writeFarMinSpartan3A _ => .write .spartan3A ⟨2, .farMin, .one⟩
  | .writeFdriSpartan3A _ => .write .spartan3A ⟨3, .fdri, .var⟩
  | .writeCmdSpartan3A _ => .write .spartan3A ⟨5, .cmd, .one⟩
  | .writeCtl0Spartan3A _ => .write .spartan3A ⟨6, .ctl0, .one⟩
  | .writeMaskSpartan3A _ => .write .spartan3A ⟨7, .mask, .one⟩
  | .writeLoutSpartan3A _ => .write .spartan3A ⟨9, .lout, .one⟩
  | .writeCor1Spartan3A _ => .write .spartan3A ⟨10, .cor1, .one⟩
  | .writeCor2Spartan3A _ => .write .spartan3A ⟨11, .cor2, .one⟩
  | .writePwrdnSpartan3A _ => .write .spartan3A ⟨12, .pwrdn, .one⟩
  | .writeFlrSpartan3A _ => .write .spartan3A ⟨13, .flr, .one⟩
  | .writeIdcodeSpartan3A _ => .write .spartan3A ⟨14, .idcode, .two⟩
  | .writeSnowplowSpartan3A _ => .write .spartan3A ⟨15, .snowplow, .one⟩
  | .writeHcOptSpartan3A _ => .write .spartan3A ⟨16, .hcOpt, .one⟩
  | .writeCsboSpartan3A _ => .write .spartan3A ⟨18, .csbo, .one⟩
  | .writeGeneral1Spartan3A _ => .write .spartan3A ⟨19, .general1, .one⟩
  | .writeGeneral2Spartan3A _ => .write .spartan3A ⟨20, .general2, .one⟩
  | .writeModeSpartan3A _ => .write .spartan3A ⟨21, .mode, .one⟩
  | .writePuGweSpartan3A _ => .write .spartan3A ⟨22, .puGwe, .one⟩
  | .writePuGtsSpartan3A _ => .write .spartan3A ⟨23, .puGts, .one⟩
  | .writeMfwrSpartan3A _ => .write .spartan3A ⟨24, .mfwr, .var⟩
  | .writeCclkFreqSpartan3A _ => .write .spartan3A ⟨25, .cclkFreq, .one⟩
  | .writeSeuOptSpartan3A _ => .write .spartan3A ⟨26, .seuOpt, .one⟩
  | .writeExpSignSpartan3A _ => .write .spartan3A ⟨27, .expSign, .one⟩
  | .writeRdbkSignSpartan3A _ => .write .spartan3A ⟨28, .rdbkSign, .one⟩
  | .writeCrcSpartan6 _ => .write .spartan6 ⟨0, .crc, .two⟩
  | .writeFarMajSpartan6 _ => .write .spartan6 ⟨1, .farMaj, .one⟩
  | .writeFarMinSpartan6 _ => .write .spartan6 ⟨2, .farMin, .one⟩
  | .writeFdriSpartan6 _ => .write .spartan6 ⟨3, .fdri, .var⟩
  | .writeCmdSpartan6 _ => .write .spartan6 ⟨5, .cmd, .one⟩
  | .writeCtl0Spartan6 _ => .write .spartan6 ⟨6, .ctl0, .one⟩
  | .writeMaskSpartan6 _ => .write .spartan6 ⟨7, .mask, .one⟩
  | .writeLoutSpartan6 _ => .write .spartan6 ⟨9, .lout, .one⟩
  | .writeCor1Spartan6 _ => .write .spartan6 ⟨10, .cor1, .one⟩
  | .writeCor2Spartan6 _ => .write .spartan6 ⟨11, .cor2, .one⟩
  | .writePwrdnSpartan6 _ => .write .spartan6 ⟨12, .pwrdn, .one⟩
  | .writeFlrSpartan6 _ => .write .spartan6 ⟨13, .flr, .one⟩
  | .writeIdcodeSpartan6 _ => .write .spartan6 ⟨14, .idcode, .two⟩
  | .writeCwdtSpartan6 _ => .write .spartan6 ⟨15, .cwdt, .one⟩
  | .writeHcOptSpartan6 _ => .write .spartan6 ⟨16, .hcOpt, .one⟩
  | .writeCsboSpartan6 _ => .write .spartan6 ⟨18, .csbo, .one⟩
  | .writeGeneral1Spartan6 _ => .write .spartan6 ⟨19, .general1, .one⟩
  | .writeGeneral2Spartan6 _ => .write .spartan6 ⟨20, .general2, .one⟩
  | .writeGeneral3Spartan6 _ => .write .spartan6 ⟨21, .general3, .one⟩
  | .writeGeneral4Spartan6 _ => .write .spartan6 ⟨22, .general4, .one⟩
  | .writeGeneral5Spartan6 _ => .write .spartan6 ⟨23, .general5, .one⟩
  | .writeModeSpartan6 _ => .write .spartan6 ⟨24, .mode, .one⟩
  | .writePuGweSpartan6 _ => .write .spartan6 ⟨25, .puGwe, .one⟩
  | .writePuGtsSpartan6 _ => .write .spartan6 ⟨26, .puGts, .one⟩
  | .writeMfwrSpartan6 _ => .write .spartan6 ⟨27, .mfwr, .var⟩
  | .writeCclkFreqSpartan6 _ => .write .spartan6 ⟨28, .cclkFreq, .one⟩
  | .writeSeuOptSpartan6 _ => .write .spartan6 ⟨29, .seuOpt, .one⟩
  | .writeExpSignSpartan6 _ => .write .spartan6 ⟨30, .expSign, .one⟩
  | .writeRdbkSignSpartan6 _ => .write .spartan6 ⟨31, .rdbkSign, .one⟩
  | .writeEyeMaskSpartan6 _ => .write .spartan6 ⟨33, .eyeMask, .one⟩
  | .writeCbcRegSpartan6 _ => .write .spartan6 ⟨34, .cbcReg, .var⟩
  | .cmdNullVirtexOriginal _ => .command .virtexOriginal ⟨0, .null⟩
  | .cmdWcfgVirtexOriginal _ => .command .virtexOriginal ⟨1, .wcfg⟩
  | .cmdLfrmVirtexOriginal _ => .command .virtexOriginal ⟨3, .lfrm⟩
  | .cmdRcfgVirtexOriginal _ => .command .virtexOriginal ⟨4, .rcfg⟩
  | .cmdStartVirtexOriginal _ => .command .virtexOriginal ⟨5, .start⟩
  | .cmdRcapVirtexOriginal _ => .command .virtexOriginal ⟨6, .rcap⟩
  | .cmdRcrcVirtexOriginal _ => .command .virtexOriginal ⟨7, .rcrc⟩
  | .cmdAghighVirtexOriginal _ => .command .virtexOriginal ⟨8, .aghigh⟩
  | .cmdSwitchVirtexOriginal _ => .command .virtexOriginal ⟨9, .switch⟩
  | .cmdNullVirtexII _ => .command .virtexII ⟨0, .null⟩
  | .cmdWcfgVirtexII _ => .command .virtexII ⟨1, .wcfg⟩
  | .cmdMfwrVirtexII _ => .command .virtexII ⟨2, .mfwr⟩
  | .cmdLfrmVirtexII _ => .command .virtexII ⟨3, .lfrm⟩
  | .cmdRcfgVirtexII _ => .command .virtexII ⟨4, .rcfg⟩
  | .cmdStartVirtexII _ => .command .virtexII ⟨5, .start⟩
  | .cmdRcapVirtexII _ => .command .virtexII ⟨6, .rcap⟩
  | .cmdRcrcVirtexII _ => .command .virtexII ⟨7, .rcrc⟩
  | .cmdAghighVirtexII _ => .command .virtexII ⟨8, .aghigh⟩
  | .cmdSwitchVirtexII _ => .command .virtexII ⟨9, .switch⟩
  | .cmdGrestoreVirtexII _ => .command .virtexII ⟨10, .grestore⟩
  | .cmdShutdownVirtexII _ => .command .virtexII ⟨11, .shutdown⟩
  | .cmdGcaptureVirtexII _ => .command .virtexII ⟨12, .gcapture⟩
  | .cmdDesynchVirtexII _ => .command .virtexII ⟨13, .desynch⟩
  | .cmdNullVirtexIVPlus _ => .command .virtexIVPlus ⟨0, .null⟩
  | .cmdWcfgVirtexIVPlus _ => .command .virtexIVPlus ⟨1, .wcfg⟩
  | .cmdMfwrVirtexIVPlus _ => .command .virtexIVPlus ⟨2, .mfwr⟩
  | .cmdLfrmVirtexIVPlus _ => .command .virtexIVPlus ⟨3, .lfrm⟩
  | .cmdRcfgVirtexIVPlus _ => .command .virtexIVPlus ⟨4, .rcfg⟩
  | .cmdStartVirtexIVPlus _ => .command .virtexIVPlus ⟨5, .start⟩
  | .cmdRcapVirtexIVPlus _ => .command .virtexIVPlus ⟨6, .rcap⟩
  | .cmdRcrcVirtexIVPlus _ => .command .virtexIVPlus ⟨7, .rcrc⟩
  | .cmdAghighVirtexIVPlus _ => .command .virtexIVPlus ⟨8, .aghigh⟩
  | .cmdSwitchVirtexIVPlus _ => .command .virtexIVPlus ⟨9, .switch⟩
  | .cmdGrestoreVirtexIVPlus _ => .command .virtexIVPlus ⟨10, .grestore⟩
  | .cmdShutdownVirtexIVPlus _ => .command .virtexIVPlus ⟨11, .shutdown⟩
  | .cmdGcaptureVirtexIVPlus _ => .command .virtexIVPlus ⟨12, .gcapture⟩
  | .cmdDesynchVirtexIVPlus _ => .command .virtexIVPlus ⟨13, .desynch⟩
  | .cmdIprogVirtexIVPlus _ => .command .virtexIVPlus ⟨15, .iprog⟩
  | .cmdCrccVirtexIVPlus _ => .command .virtexIVPlus ⟨16, .crcc⟩
  | .cmdLtimerVirtexIVPlus _ => .command .virtexIVPlus ⟨17, .ltimer⟩
  | .cmdBspiReadVirtexIVPlus _ => .command .virtexIVPlus ⟨18, .bspiRead⟩
  | .cmdFallEdgeVirtexIVPlus _ => .command .virtexIVPlus ⟨19, .fallEdge⟩
  | .cmdNullSpartan3A => .command .spartan3A ⟨0, .null⟩
  | .cmdWcfgSpartan3A => .command .spartan3A ⟨1, .wcfg⟩
  | .cmdMfwrSpartan3A => .command .spartan3A ⟨2, .mfwr⟩
  | .cmdLfrmSpartan3A => .command .spartan3A ⟨3, .lfrm⟩
  | .cmdRcfgSpartan3A => .command .spartan3A ⟨4, .rcfg⟩
  | .cmdStartSpartan3A => .command .spartan3A ⟨5, .start⟩
  | .cmdRcrcSpartan3A => .command .spartan3A ⟨7, .rcrc⟩
  | .cmdAghighSpartan3A => .command .spartan3A ⟨8, .aghigh⟩
  | .cmdGrestoreSpartan3A => .command .spartan3A ⟨10, .grestore⟩
  | .cmdShutdownSpartan3A => .command .spartan3A ⟨11, .shutdown⟩
  | .cmdDesynchSpartan3A => .command .spartan3A ⟨13, .desynch⟩
  | .cmdIprogSpartan3A => .command .spartan3A ⟨14, .iprog⟩
  | .cmdNullSpartan6 => .command .spartan6 ⟨0, .null⟩
  | .cmdWcfgSpartan6 => .command .spartan6 ⟨1, .wcfg⟩
  | .cmdMfwrSpartan6 => .command .spartan6 ⟨2, .mfwr⟩
  | .cmdLfrmSpartan6 => .command .spartan6 ⟨3, .lfrm⟩
  | .cmdRcfgSpartan6 => .command .spartan6 ⟨4, .rcfg⟩
  | .cmdStartSpartan6 => .command .spartan6 ⟨5, .start⟩
  | .cmdRcrcSpartan6 => .command .spartan6 ⟨7, .rcrc⟩
  | .cmdAghighSpartan6 => .command .spartan6 ⟨8, .aghigh⟩
  | .cmdGrestoreSpartan6 => .command .spartan6 ⟨10, .grestore⟩
  | .cmdShutdownSpartan6 => .command .spartan6 ⟨11, .shutdown⟩
  | .cmdDesynchSpartan6 => .command .spartan6 ⟨13, .desynch⟩
  | .cmdIprogSpartan6 => .command .spartan6 ⟨14, .iprog⟩

/-- The register id of the command register in the opcode table's `CMD_` rows: 4 in the 32-bit kinds, 5 in the 16-bit
kinds (R41). -/
def DeviceKind.cmdId : DeviceKind → RegId
  | .virtexOriginal => 4
  | .virtexII => 4
  | .virtexIVPlus => 4
  | .spartan3A => 5
  | .spartan6 => 5

/-- The session's table has, under the row's id, exactly the row's default entry (R36 to R40). -/
def rowInTable (c : Config) (k : DeviceKind) (e : RegEntry) : Bool := c.lookupReg k e.id == some e

/-- The session's table and the kind's default table hold the same entry for an id: the id has a `WRITE_` row. -/
def hasRow (c : Config) (k : DeviceKind) (id : RegId) : Bool :=
  (c.lookupReg k id).isSome && c.lookupReg k id == findReg (defaultRegTables.get k) id

/-- An instruction that a session of kind `k` under configuration `c` can meet. -/
def Instr.wf (c : Config) (k : DeviceKind) (i : Instr) : Bool :=
  match i.form with
  | .word32 => k.wordBytes == 4
  | .word16 => k.wordBytes == 2
  | .type1Wide reg => k.wordBytes == 4 && !hasRow c k reg
  | .type1Narrow reg => k.wordBytes == 2 && !hasRow c k reg
  | .afterFdri => true
  | .write rk e => rk == k && rowInTable c k e
  | .command rk e => rk == k && rowInTable c k ⟨k.cmdId, .cmd, .one⟩ && c.lookupCmd k e.code == some e.command

end Sys2Proof
end

