-- ==== Sys2Proof/Decode.lean ====
section
/-!
DEFINITION. The decoder, total on any bytes, and the encoder (spec/30_encoding.md). The decoder tells an instruction by its
header word, and for the `CMD_` rows by the code word after it; whether the current mode and the quirk flags accept the
instruction is decided by its meaning (log entry 16).
-/

namespace Sys2Proof

open Sys2Proof.Machine (beValue)

/-- Where the bytes stand: at a packet's header, or after the data of a long write to Fdri (R173). -/
inductive Place where
  | header
  | afterFdri
deriving DecidableEq, Repr

/-- Why bytes are no instruction. -/
inductive Reject where
  /-- Fewer bytes than one word (R178: the step takes `Truncated`). -/
  | shortWord
  /-- A header word of no class of R59 (R68, R95: the step takes `UnexpectedWord`). -/
  | illegalWord (hdr : Word)
deriving DecidableEq, Repr

/-- The 4 bytes of a 32-bit word in buffer order (R45). -/
def bytes32 (w : BitVec 32) : List Byte :=
  [w.extractLsb' 24 8, w.extractLsb' 16 8, w.extractLsb' 8 8, w.extractLsb' 0 8]

/-- The 2 bytes of a 16-bit word in buffer order (R45). -/
def bytes16 (w : BitVec 16) : List Byte := [w.extractLsb' 8 8, w.extractLsb' 0 8]

/-- The first 32-bit word of a byte sequence (R45). -/
def word32 (bs : List Byte) : Option (BitVec 32) :=
  if 4 ≤ bs.length then some (BitVec.ofNat 32 (beValue (bs.take 4))) else none

/-- The first 16-bit word of a byte sequence (R45). -/
def word16 (bs : List Byte) : Option (BitVec 16) :=
  if 2 ≤ bs.length then some (BitVec.ofNat 16 (beValue (bs.take 2))) else none

/-- The `WRITE_` row of a 32-bit kind and tag (R36 to R38). -/
def writeRow32 (k : DeviceKind) (t : Tag) (ignored : BitVec 2) (wc : BitVec 11) : Option Instr :=
  match k, t with
  | .virtexOriginal, .crc => some (.writeCrcVirtexOriginal ignored wc)
  | .virtexOriginal, .far => some (.writeFarVirtexOriginal ignored wc)
  | .virtexOriginal, .fdri => some (.writeFdriVirtexOriginal ignored wc)
  | .virtexOriginal, .cmd => some (.writeCmdVirtexOriginal ignored wc)
  | .virtexOriginal, .ctl0 => some (.writeCtl0VirtexOriginal ignored wc)
  | .virtexOriginal, .mask => some (.writeMaskVirtexOriginal ignored wc)
  | .virtexOriginal, .lout => some (.writeLoutVirtexOriginal ignored wc)
  | .virtexOriginal, .cor0 => some (.writeCor0VirtexOriginal ignored wc)
  | .virtexOriginal, .flr => some (.writeFlrVirtexOriginal ignored wc)
  | .virtexII, .crc => some (.writeCrcVirtexII ignored wc)
  | .virtexII, .far => some (.writeFarVirtexII ignored wc)
  | .virtexII, .fdri => some (.writeFdriVirtexII ignored wc)
  | .virtexII, .cmd => some (.writeCmdVirtexII ignored wc)
  | .virtexII, .ctl0 => some (.writeCtl0VirtexII ignored wc)
  | .virtexII, .mask => some (.writeMaskVirtexII ignored wc)
  | .virtexII, .lout => some (.writeLoutVirtexII ignored wc)
  | .virtexII, .cor0 => some (.writeCor0VirtexII ignored wc)
  | .virtexII, .mfwr => some (.writeMfwrVirtexII ignored wc)
  | .virtexII, .flr => some (.writeFlrVirtexII ignored wc)
  | .virtexII, .key => some (.writeKeyVirtexII ignored wc)
  | .virtexII, .cbc => some (.writeCbcVirtexII ignored wc)
  | .virtexII, .idcode => some (.writeIdcodeVirtexII ignored wc)
  | .virtexIVPlus, .crc => some (.writeCrcVirtexIVPlus ignored wc)
  | .virtexIVPlus, .far => some (.writeFarVirtexIVPlus ignored wc)
  | .virtexIVPlus, .fdri => some (.writeFdriVirtexIVPlus ignored wc)
  | .virtexIVPlus, .cmd => some (.writeCmdVirtexIVPlus ignored wc)
  | .virtexIVPlus, .ctl0 => some (.writeCtl0VirtexIVPlus ignored wc)
  | .virtexIVPlus, .mask => some (.writeMaskVirtexIVPlus ignored wc)
  | .virtexIVPlus, .lout => some (.writeLoutVirtexIVPlus ignored wc)
  | .virtexIVPlus, .cor0 => some (.writeCor0VirtexIVPlus ignored wc)
  | .virtexIVPlus, .mfwr => some (.writeMfwrVirtexIVPlus ignored wc)
  | .virtexIVPlus, .cbc => some (.writeCbcVirtexIVPlus ignored wc)
  | .virtexIVPlus, .idcode => some (.writeIdcodeVirtexIVPlus ignored wc)
  | .virtexIVPlus, .axss => some (.writeAxssVirtexIVPlus ignored wc)
  | .virtexIVPlus, .cor1 => some (.writeCor1VirtexIVPlus ignored wc)
  | .virtexIVPlus, .csob => some (.writeCsobVirtexIVPlus ignored wc)
  | .virtexIVPlus, .wbstar => some (.writeWbstarVirtexIVPlus ignored wc)
  | .virtexIVPlus, .timer => some (.writeTimerVirtexIVPlus ignored wc)
  | .virtexIVPlus, .rbcrcSw => some (.writeRbcrcSwVirtexIVPlus ignored wc)
  | .virtexIVPlus, .ctl1 => some (.writeCtl1VirtexIVPlus ignored wc)
  | .virtexIVPlus, .bspi => some (.writeBspiVirtexIVPlus ignored wc)
  | _, _ => none

/-- The `WRITE_` row of a 16-bit kind and tag (R39, R40). -/
def writeRow16 (k : DeviceKind) (t : Tag) (wc : BitVec 5) : Option Instr :=
  match k, t with
  | .spartan3A, .crc => some (.writeCrcSpartan3A wc)
  | .spartan3A, .farMaj => some (.writeFarMajSpartan3A wc)
  | .spartan3A, .farMin => some (.writeFarMinSpartan3A wc)
  | .spartan3A, .fdri => some (.writeFdriSpartan3A wc)
  | .spartan3A, .cmd => some (.writeCmdSpartan3A wc)
  | .spartan3A, .ctl0 => some (.writeCtl0Spartan3A wc)
  | .spartan3A, .mask => some (.writeMaskSpartan3A wc)
  | .spartan3A, .lout => some (.writeLoutSpartan3A wc)
  | .spartan3A, .cor1 => some (.writeCor1Spartan3A wc)
  | .spartan3A, .cor2 => some (.writeCor2Spartan3A wc)
  | .spartan3A, .pwrdn => some (.writePwrdnSpartan3A wc)
  | .spartan3A, .flr => some (.writeFlrSpartan3A wc)
  | .spartan3A, .idcode => some (.writeIdcodeSpartan3A wc)
  | .spartan3A, .snowplow => some (.writeSnowplowSpartan3A wc)
  | .spartan3A, .hcOpt => some (.writeHcOptSpartan3A wc)
  | .spartan3A, .csbo => some (.writeCsboSpartan3A wc)
  | .spartan3A, .general1 => some (.writeGeneral1Spartan3A wc)
  | .spartan3A, .general2 => some (.writeGeneral2Spartan3A wc)
  | .spartan3A, .mode => some (.writeModeSpartan3A wc)
  | .spartan3A, .puGwe => some (.writePuGweSpartan3A wc)
  | .spartan3A, .puGts => some (.writePuGtsSpartan3A wc)
  | .spartan3A, .mfwr => some (.writeMfwrSpartan3A wc)
  | .spartan3A, .cclkFreq => some (.writeCclkFreqSpartan3A wc)
  | .spartan3A, .seuOpt => some (.writeSeuOptSpartan3A wc)
  | .spartan3A, .expSign => some (.writeExpSignSpartan3A wc)
  | .spartan3A, .rdbkSign => some (.writeRdbkSignSpartan3A wc)
  | .spartan6, .crc => some (.writeCrcSpartan6 wc)
  | .spartan6, .farMaj => some (.writeFarMajSpartan6 wc)
  | .spartan6, .farMin => some (.writeFarMinSpartan6 wc)
  | .spartan6, .fdri => some (.writeFdriSpartan6 wc)
  | .spartan6, .cmd => some (.writeCmdSpartan6 wc)
  | .spartan6, .ctl0 => some (.writeCtl0Spartan6 wc)
  | .spartan6, .mask => some (.writeMaskSpartan6 wc)
  | .spartan6, .lout => some (.writeLoutSpartan6 wc)
  | .spartan6, .cor1 => some (.writeCor1Spartan6 wc)
  | .spartan6, .cor2 => some (.writeCor2Spartan6 wc)
  | .spartan6, .pwrdn => some (.writePwrdnSpartan6 wc)
  | .spartan6, .flr => some (.writeFlrSpartan6 wc)
  | .spartan6, .idcode => some (.writeIdcodeSpartan6 wc)
  | .spartan6, .cwdt => some (.writeCwdtSpartan6 wc)
  | .spartan6, .hcOpt => some (.writeHcOptSpartan6 wc)
  | .spartan6, .csbo => some (.writeCsboSpartan6 wc)
  | .spartan6, .general1 => some (.writeGeneral1Spartan6 wc)
  | .spartan6, .general2 => some (.writeGeneral2Spartan6 wc)
  | .spartan6, .general3 => some (.writeGeneral3Spartan6 wc)
  | .spartan6, .general4 => some (.writeGeneral4Spartan6 wc)
  | .spartan6, .general5 => some (.writeGeneral5Spartan6 wc)
  | .spartan6, .mode => some (.writeModeSpartan6 wc)
  | .spartan6, .puGwe => some (.writePuGweSpartan6 wc)
  | .spartan6, .puGts => some (.writePuGtsSpartan6 wc)
  | .spartan6, .mfwr => some (.writeMfwrSpartan6 wc)
  | .spartan6, .cclkFreq => some (.writeCclkFreqSpartan6 wc)
  | .spartan6, .seuOpt => some (.writeSeuOptSpartan6 wc)
  | .spartan6, .expSign => some (.writeExpSignSpartan6 wc)
  | .spartan6, .rdbkSign => some (.writeRdbkSignSpartan6 wc)
  | .spartan6, .eyeMask => some (.writeEyeMaskSpartan6 wc)
  | .spartan6, .cbcReg => some (.writeCbcRegSpartan6 wc)
  | _, _ => none

/-- The `CMD_` row of a 32-bit kind and command (R146). -/
def cmdRow32 (k : DeviceKind) (c : Command) (ignored : BitVec 2) : Option Instr :=
  match k, c with
  | .virtexOriginal, .null => some (.cmdNullVirtexOriginal ignored)
  | .virtexOriginal, .wcfg => some (.cmdWcfgVirtexOriginal ignored)
  | .virtexOriginal, .lfrm => some (.cmdLfrmVirtexOriginal ignored)
  | .virtexOriginal, .rcfg => some (.cmdRcfgVirtexOriginal ignored)
  | .virtexOriginal, .start => some (.cmdStartVirtexOriginal ignored)
  | .virtexOriginal, .rcap => some (.cmdRcapVirtexOriginal ignored)
  | .virtexOriginal, .rcrc => some (.cmdRcrcVirtexOriginal ignored)
  | .virtexOriginal, .aghigh => some (.cmdAghighVirtexOriginal ignored)
  | .virtexOriginal, .switch => some (.cmdSwitchVirtexOriginal ignored)
  | .virtexII, .null => some (.cmdNullVirtexII ignored)
  | .virtexII, .wcfg => some (.cmdWcfgVirtexII ignored)
  | .virtexII, .mfwr => some (.cmdMfwrVirtexII ignored)
  | .virtexII, .lfrm => some (.cmdLfrmVirtexII ignored)
  | .virtexII, .rcfg => some (.cmdRcfgVirtexII ignored)
  | .virtexII, .start => some (.cmdStartVirtexII ignored)
  | .virtexII, .rcap => some (.cmdRcapVirtexII ignored)
  | .virtexII, .rcrc => some (.cmdRcrcVirtexII ignored)
  | .virtexII, .aghigh => some (.cmdAghighVirtexII ignored)
  | .virtexII, .switch => some (.cmdSwitchVirtexII ignored)
  | .virtexII, .grestore => some (.cmdGrestoreVirtexII ignored)
  | .virtexII, .shutdown => some (.cmdShutdownVirtexII ignored)
  | .virtexII, .gcapture => some (.cmdGcaptureVirtexII ignored)
  | .virtexII, .desynch => some (.cmdDesynchVirtexII ignored)
  | .virtexIVPlus, .null => some (.cmdNullVirtexIVPlus ignored)
  | .virtexIVPlus, .wcfg => some (.cmdWcfgVirtexIVPlus ignored)
  | .virtexIVPlus, .mfwr => some (.cmdMfwrVirtexIVPlus ignored)
  | .virtexIVPlus, .lfrm => some (.cmdLfrmVirtexIVPlus ignored)
  | .virtexIVPlus, .rcfg => some (.cmdRcfgVirtexIVPlus ignored)
  | .virtexIVPlus, .start => some (.cmdStartVirtexIVPlus ignored)
  | .virtexIVPlus, .rcap => some (.cmdRcapVirtexIVPlus ignored)
  | .virtexIVPlus, .rcrc => some (.cmdRcrcVirtexIVPlus ignored)
  | .virtexIVPlus, .aghigh => some (.cmdAghighVirtexIVPlus ignored)
  | .virtexIVPlus, .switch => some (.cmdSwitchVirtexIVPlus ignored)
  | .virtexIVPlus, .grestore => some (.cmdGrestoreVirtexIVPlus ignored)
  | .virtexIVPlus, .shutdown => some (.cmdShutdownVirtexIVPlus ignored)
  | .virtexIVPlus, .gcapture => some (.cmdGcaptureVirtexIVPlus ignored)
  | .virtexIVPlus, .desynch => some (.cmdDesynchVirtexIVPlus ignored)
  | .virtexIVPlus, .iprog => some (.cmdIprogVirtexIVPlus ignored)
  | .virtexIVPlus, .crcc => some (.cmdCrccVirtexIVPlus ignored)
  | .virtexIVPlus, .ltimer => some (.cmdLtimerVirtexIVPlus ignored)
  | .virtexIVPlus, .bspiRead => some (.cmdBspiReadVirtexIVPlus ignored)
  | .virtexIVPlus, .fallEdge => some (.cmdFallEdgeVirtexIVPlus ignored)
  | _, _ => none

/-- The `CMD_` row of a 16-bit kind and command (R146). -/
def cmdRow16 (k : DeviceKind) (c : Command) : Option Instr :=
  match k, c with
  | .spartan3A, .null => some .cmdNullSpartan3A
  | .spartan3A, .wcfg => some .cmdWcfgSpartan3A
  | .spartan3A, .mfwr => some .cmdMfwrSpartan3A
  | .spartan3A, .lfrm => some .cmdLfrmSpartan3A
  | .spartan3A, .rcfg => some .cmdRcfgSpartan3A
  | .spartan3A, .start => some .cmdStartSpartan3A
  | .spartan3A, .rcrc => some .cmdRcrcSpartan3A
  | .spartan3A, .aghigh => some .cmdAghighSpartan3A
  | .spartan3A, .grestore => some .cmdGrestoreSpartan3A
  | .spartan3A, .shutdown => some .cmdShutdownSpartan3A
  | .spartan3A, .desynch => some .cmdDesynchSpartan3A
  | .spartan3A, .iprog => some .cmdIprogSpartan3A
  | .spartan6, .null => some .cmdNullSpartan6
  | .spartan6, .wcfg => some .cmdWcfgSpartan6
  | .spartan6, .mfwr => some .cmdMfwrSpartan6
  | .spartan6, .lfrm => some .cmdLfrmSpartan6
  | .spartan6, .rcfg => some .cmdRcfgSpartan6
  | .spartan6, .start => some .cmdStartSpartan6
  | .spartan6, .rcrc => some .cmdRcrcSpartan6
  | .spartan6, .aghigh => some .cmdAghighSpartan6
  | .spartan6, .grestore => some .cmdGrestoreSpartan6
  | .spartan6, .shutdown => some .cmdShutdownSpartan6
  | .spartan6, .desynch => some .cmdDesynchSpartan6
  | .spartan6, .iprog => some .cmdIprogSpartan6
  | _, _ => none

/-- The command of a `CMD_` row: a one-word write to the command register whose code word the session's table and the
kind's default table give the same command (R145, R146). -/
def rowCommand (c : Config) (k : DeviceKind) (e : RegEntry) (wc : Nat) (next : Option Word) : Option Command :=
  match next with
  | some code =>
    if e = ⟨k.cmdId, .cmd, .one⟩ ∧ wc = 1 ∧ c.lookupCmd k code = findCmd (defaultCmdTables.get k) code then
      c.lookupCmd k code
    else none
  | none => none

/-- A Type-1 write header of a 32-bit kind (R60): the `CMD_` row, the `WRITE_` row or the generic row. -/
def type1Row32 (c : Config) (k : DeviceKind) (reg : BitVec 14) (ignored : BitVec 2) (wc : BitVec 11)
    (next : Option Word) : Instr :=
  match c.lookupReg k reg.toNat with
  | none => .t1write32 reg ignored wc
  | some e =>
    if findReg (defaultRegTables.get k) reg.toNat = some e then
      match rowCommand c k e wc.toNat next with
      | some cmd => (cmdRow32 k cmd ignored).getD (.t1write32 reg ignored wc)
      | none => (writeRow32 k e.tag ignored wc).getD (.t1write32 reg ignored wc)
    else .t1write32 reg ignored wc

/-- A Type-1 write header of a 16-bit kind (R64): the `CMD_` row, the `WRITE_` row or the generic row. -/
def type1Row16 (c : Config) (k : DeviceKind) (reg : BitVec 6) (wc : BitVec 5) (next : Option Word) : Instr :=
  match c.lookupReg k reg.toNat with
  | none => .t1write16 reg wc
  | some e =>
    if findReg (defaultRegTables.get k) reg.toNat = some e then
      match rowCommand c k e wc.toNat next with
      | some cmd => (cmdRow16 k cmd).getD (.t1write16 reg wc)
      | none => (writeRow16 k e.tag wc).getD (.t1write16 reg wc)
    else .t1write16 reg wc

/-- The class of a 32-bit header word (R59, R60 to R63, R67 to R69, R90). The type field values 0b001 and 0b010 are constants
here, not parameters (DESIGN CHOICE, log entry 31). -/
def decode32 (c : Config) (k : DeviceKind) (hdr : BitVec 32) (next : Option Word) : Except Reject Instr :=
  if hdr = 0xFFFFFFFF then .ok .dummy32
  else if hdr = 0x000000BB then .ok .widthDetect
  else if hdr = 0xAA995566 then .ok .sync32
  else if hdr = 0x00000000 then .ok .bugFdri
  else if hdr = 0x20000000 then .ok .nop32
  else if hdr.extractLsb' 27 5 = 0b00110#5 then
    .ok (type1Row32 c k (hdr.extractLsb' 13 14) (hdr.extractLsb' 11 2) (hdr.extractLsb' 0 11) next)
  else if hdr.extractLsb' 27 5 = 0b01010#5 then .ok (.t2write (hdr.extractLsb' 0 27))
  else .error (.illegalWord hdr)

/-- The class of a 16-bit header word (R59, R64 to R68, R70, R90). The type field values 0b001 and 0b010 are constants here, not
parameters (DESIGN CHOICE, log entry 31). -/
def decode16 (c : Config) (k : DeviceKind) (hdr : BitVec 16) (next : Option Word) : Except Reject Instr :=
  if hdr = 0xFFFF then .ok .dummy16
  else if hdr = 0xAA99 then .ok .sync16
  else if hdr = 0x2000 then .ok .nop16
  else if hdr.extractLsb' 11 5 = 0b00110#5 then
    .ok (type1Row16 c k (hdr.extractLsb' 5 6) (hdr.extractLsb' 0 5) next)
  else if hdr.extractLsb' 11 5 = 0b01010#5 then .ok (.lwrite (hdr.extractLsb' 0 11))
  else .error (.illegalWord (hdr.setWidth 32))

/-- The instruction that bytes hold, for a session's kind and configuration (R59). -/
def decode (c : Config) (k : DeviceKind) (place : Place) (bs : List Byte) : Except Reject Instr :=
  match place with
  | .afterFdri =>
    match word32 bs with
    | some v => .ok (.autoCrc v)
    | none => .error .shortWord
  | .header =>
    if k.wordBytes = 4 then
      match word32 bs with
      | some hdr => decode32 c k hdr (word32 (bs.drop 4))
      | none => .error .shortWord
    else
      match word16 bs with
      | some hdr => decode16 c k hdr ((word16 (bs.drop 2)).map fun v => v.setWidth 32)
      | none => .error .shortWord

/-- The 32-bit Type-1 write header of a register, the ignored bits and a word count (R60). -/
def type1Header32 (reg : BitVec 14) (ignored : BitVec 2) (wc : BitVec 11) : BitVec 32 :=
  0b00110#5 ++ reg ++ ignored ++ wc

/-- The 16-bit Type-1 write header of a register and a word count (R64). -/
def type1Header16 (reg : BitVec 6) (wc : BitVec 5) : BitVec 16 := 0b00110#5 ++ reg ++ wc

/-- The bytes of a 32-bit `CMD_` row: header, then code word (R60, R145). -/
def cmdBytes32 (ignored : BitVec 2) (code : BitVec 32) : List Byte :=
  bytes32 (type1Header32 4 ignored 1) ++ bytes32 code

/-- The bytes of a 16-bit `CMD_` row: header, then code word (R64, R145). -/
def cmdBytes16 (code : BitVec 16) : List Byte := bytes16 (type1Header16 5 1) ++ bytes16 code

/-- The words of an instruction as its row of the opcode table has them, in buffer order (R60 to R66, R73). -/
def encode : Instr → List Byte
  | .dummy32 => bytes32 0xFFFFFFFF
  | .dummy16 => bytes16 0xFFFF
  | .widthDetect => bytes32 0x000000BB ++ bytes32 0x11220044
  | .sync32 => bytes32 0xAA995566
  | .sync16 => bytes16 0xAA99
  | .nop32 => bytes32 0x20000000
  | .nop16 => bytes16 0x2000
  | .t1write32 reg ignored wc => bytes32 (type1Header32 reg ignored wc)
  | .t1write16 reg wc => bytes16 (type1Header16 reg wc)
  | .t2write wc => bytes32 (0b01010#5 ++ wc)
  | .lwrite low => bytes16 (0b01010#5 ++ low)
  | .bugFdri => bytes32 0x00000000
  | .autoCrc value => bytes32 value
  | .writeCrcVirtexOriginal ignored wc => bytes32 (type1Header32 0 ignored wc)
  | .writeFarVirtexOriginal ignored wc => bytes32 (type1Header32 1 ignored wc)
  | .writeFdriVirtexOriginal ignored wc => bytes32 (type1Header32 2 ignored wc)
  | .writeCmdVirtexOriginal ignored wc => bytes32 (type1Header32 4 ignored wc)
  | .writeCtl0VirtexOriginal ignored wc => bytes32 (type1Header32 5 ignored wc)
  | .writeMaskVirtexOriginal ignored wc => bytes32 (type1Header32 6 ignored wc)
  | .writeLoutVirtexOriginal ignored wc => bytes32 (type1Header32 8 ignored wc)
  | .writeCor0VirtexOriginal ignored wc => bytes32 (type1Header32 9 ignored wc)
  | .writeFlrVirtexOriginal ignored wc => bytes32 (type1Header32 11 ignored wc)
  | .writeCrcVirtexII ignored wc => bytes32 (type1Header32 0 ignored wc)
  | .writeFarVirtexII ignored wc => bytes32 (type1Header32 1 ignored wc)
  | .writeFdriVirtexII ignored wc => bytes32 (type1Header32 2 ignored wc)
  | .writeCmdVirtexII ignored wc => bytes32 (type1Header32 4 ignored wc)
  | .writeCtl0VirtexII ignored wc => bytes32 (type1Header32 5 ignored wc)
  | .writeMaskVirtexII ignored wc => bytes32 (type1Header32 6 ignored wc)
  | .writeLoutVirtexII ignored wc => bytes32 (type1Header32 8 ignored wc)
  | .writeCor0VirtexII ignored wc => bytes32 (type1Header32 9 ignored wc)
  | .writeMfwrVirtexII ignored wc => bytes32 (type1Header32 10 ignored wc)
  | .writeFlrVirtexII ignored wc => bytes32 (type1Header32 11 ignored wc)
  | .writeKeyVirtexII ignored wc => bytes32 (type1Header32 12 ignored wc)
  | .writeCbcVirtexII ignored wc => bytes32 (type1Header32 13 ignored wc)
  | .writeIdcodeVirtexII ignored wc => bytes32 (type1Header32 14 ignored wc)
  | .writeCrcVirtexIVPlus ignored wc => bytes32 (type1Header32 0 ignored wc)
  | .writeFarVirtexIVPlus ignored wc => bytes32 (type1Header32 1 ignored wc)
  | .writeFdriVirtexIVPlus ignored wc => bytes32 (type1Header32 2 ignored wc)
  | .writeCmdVirtexIVPlus ignored wc => bytes32 (type1Header32 4 ignored wc)
  | .writeCtl0VirtexIVPlus ignored wc => bytes32 (type1Header32 5 ignored wc)
  | .writeMaskVirtexIVPlus ignored wc => bytes32 (type1Header32 6 ignored wc)
  | .writeLoutVirtexIVPlus ignored wc => bytes32 (type1Header32 8 ignored wc)
  | .writeCor0VirtexIVPlus ignored wc => bytes32 (type1Header32 9 ignored wc)
  | .writeMfwrVirtexIVPlus ignored wc => bytes32 (type1Header32 10 ignored wc)
  | .writeCbcVirtexIVPlus ignored wc => bytes32 (type1Header32 11 ignored wc)
  | .writeIdcodeVirtexIVPlus ignored wc => bytes32 (type1Header32 12 ignored wc)
  | .writeAxssVirtexIVPlus ignored wc => bytes32 (type1Header32 13 ignored wc)
  | .writeCor1VirtexIVPlus ignored wc => bytes32 (type1Header32 14 ignored wc)
  | .writeCsobVirtexIVPlus ignored wc => bytes32 (type1Header32 15 ignored wc)
  | .writeWbstarVirtexIVPlus ignored wc => bytes32 (type1Header32 16 ignored wc)
  | .writeTimerVirtexIVPlus ignored wc => bytes32 (type1Header32 17 ignored wc)
  | .writeRbcrcSwVirtexIVPlus ignored wc => bytes32 (type1Header32 19 ignored wc)
  | .writeCtl1VirtexIVPlus ignored wc => bytes32 (type1Header32 24 ignored wc)
  | .writeBspiVirtexIVPlus ignored wc => bytes32 (type1Header32 31 ignored wc)
  | .writeCrcSpartan3A wc => bytes16 (type1Header16 0 wc)
  | .writeFarMajSpartan3A wc => bytes16 (type1Header16 1 wc)
  | .writeFarMinSpartan3A wc => bytes16 (type1Header16 2 wc)
  | .writeFdriSpartan3A wc => bytes16 (type1Header16 3 wc)
  | .writeCmdSpartan3A wc => bytes16 (type1Header16 5 wc)
  | .writeCtl0Spartan3A wc => bytes16 (type1Header16 6 wc)
  | .writeMaskSpartan3A wc => bytes16 (type1Header16 7 wc)
  | .writeLoutSpartan3A wc => bytes16 (type1Header16 9 wc)
  | .writeCor1Spartan3A wc => bytes16 (type1Header16 10 wc)
  | .writeCor2Spartan3A wc => bytes16 (type1Header16 11 wc)
  | .writePwrdnSpartan3A wc => bytes16 (type1Header16 12 wc)
  | .writeFlrSpartan3A wc => bytes16 (type1Header16 13 wc)
  | .writeIdcodeSpartan3A wc => bytes16 (type1Header16 14 wc)
  | .writeSnowplowSpartan3A wc => bytes16 (type1Header16 15 wc)
  | .writeHcOptSpartan3A wc => bytes16 (type1Header16 16 wc)
  | .writeCsboSpartan3A wc => bytes16 (type1Header16 18 wc)
  | .writeGeneral1Spartan3A wc => bytes16 (type1Header16 19 wc)
  | .writeGeneral2Spartan3A wc => bytes16 (type1Header16 20 wc)
  | .writeModeSpartan3A wc => bytes16 (type1Header16 21 wc)
  | .writePuGweSpartan3A wc => bytes16 (type1Header16 22 wc)
  | .writePuGtsSpartan3A wc => bytes16 (type1Header16 23 wc)
  | .writeMfwrSpartan3A wc => bytes16 (type1Header16 24 wc)
  | .writeCclkFreqSpartan3A wc => bytes16 (type1Header16 25 wc)
  | .writeSeuOptSpartan3A wc => bytes16 (type1Header16 26 wc)
  | .writeExpSignSpartan3A wc => bytes16 (type1Header16 27 wc)
  | .writeRdbkSignSpartan3A wc => bytes16 (type1Header16 28 wc)
  | .writeCrcSpartan6 wc => bytes16 (type1Header16 0 wc)
  | .writeFarMajSpartan6 wc => bytes16 (type1Header16 1 wc)
  | .writeFarMinSpartan6 wc => bytes16 (type1Header16 2 wc)
  | .writeFdriSpartan6 wc => bytes16 (type1Header16 3 wc)
  | .writeCmdSpartan6 wc => bytes16 (type1Header16 5 wc)
  | .writeCtl0Spartan6 wc => bytes16 (type1Header16 6 wc)
  | .writeMaskSpartan6 wc => bytes16 (type1Header16 7 wc)
  | .writeLoutSpartan6 wc => bytes16 (type1Header16 9 wc)
  | .writeCor1Spartan6 wc => bytes16 (type1Header16 10 wc)
  | .writeCor2Spartan6 wc => bytes16 (type1Header16 11 wc)
  | .writePwrdnSpartan6 wc => bytes16 (type1Header16 12 wc)
  | .writeFlrSpartan6 wc => bytes16 (type1Header16 13 wc)
  | .writeIdcodeSpartan6 wc => bytes16 (type1Header16 14 wc)
  | .writeCwdtSpartan6 wc => bytes16 (type1Header16 15 wc)
  | .writeHcOptSpartan6 wc => bytes16 (type1Header16 16 wc)
  | .writeCsboSpartan6 wc => bytes16 (type1Header16 18 wc)
  | .writeGeneral1Spartan6 wc => bytes16 (type1Header16 19 wc)
  | .writeGeneral2Spartan6 wc => bytes16 (type1Header16 20 wc)
  | .writeGeneral3Spartan6 wc => bytes16 (type1Header16 21 wc)
  | .writeGeneral4Spartan6 wc => bytes16 (type1Header16 22 wc)
  | .writeGeneral5Spartan6 wc => bytes16 (type1Header16 23 wc)
  | .writeModeSpartan6 wc => bytes16 (type1Header16 24 wc)
  | .writePuGweSpartan6 wc => bytes16 (type1Header16 25 wc)
  | .writePuGtsSpartan6 wc => bytes16 (type1Header16 26 wc)
  | .writeMfwrSpartan6 wc => bytes16 (type1Header16 27 wc)
  | .writeCclkFreqSpartan6 wc => bytes16 (type1Header16 28 wc)
  | .writeSeuOptSpartan6 wc => bytes16 (type1Header16 29 wc)
  | .writeExpSignSpartan6 wc => bytes16 (type1Header16 30 wc)
  | .writeRdbkSignSpartan6 wc => bytes16 (type1Header16 31 wc)
  | .writeEyeMaskSpartan6 wc => bytes16 (type1Header16 33 wc)
  | .writeCbcRegSpartan6 wc => bytes16 (type1Header16 34 wc)
  | .cmdNullVirtexOriginal ignored => cmdBytes32 ignored 0
  | .cmdWcfgVirtexOriginal ignored => cmdBytes32 ignored 1
  | .cmdLfrmVirtexOriginal ignored => cmdBytes32 ignored 3
  | .cmdRcfgVirtexOriginal ignored => cmdBytes32 ignored 4
  | .cmdStartVirtexOriginal ignored => cmdBytes32 ignored 5
  | .cmdRcapVirtexOriginal ignored => cmdBytes32 ignored 6
  | .cmdRcrcVirtexOriginal ignored => cmdBytes32 ignored 7
  | .cmdAghighVirtexOriginal ignored => cmdBytes32 ignored 8
  | .cmdSwitchVirtexOriginal ignored => cmdBytes32 ignored 9
  | .cmdNullVirtexII ignored => cmdBytes32 ignored 0
  | .cmdWcfgVirtexII ignored => cmdBytes32 ignored 1
  | .cmdMfwrVirtexII ignored => cmdBytes32 ignored 2
  | .cmdLfrmVirtexII ignored => cmdBytes32 ignored 3
  | .cmdRcfgVirtexII ignored => cmdBytes32 ignored 4
  | .cmdStartVirtexII ignored => cmdBytes32 ignored 5
  | .cmdRcapVirtexII ignored => cmdBytes32 ignored 6
  | .cmdRcrcVirtexII ignored => cmdBytes32 ignored 7
  | .cmdAghighVirtexII ignored => cmdBytes32 ignored 8
  | .cmdSwitchVirtexII ignored => cmdBytes32 ignored 9
  | .cmdGrestoreVirtexII ignored => cmdBytes32 ignored 10
  | .cmdShutdownVirtexII ignored => cmdBytes32 ignored 11
  | .cmdGcaptureVirtexII ignored => cmdBytes32 ignored 12
  | .cmdDesynchVirtexII ignored => cmdBytes32 ignored 13
  | .cmdNullVirtexIVPlus ignored => cmdBytes32 ignored 0
  | .cmdWcfgVirtexIVPlus ignored => cmdBytes32 ignored 1
  | .cmdMfwrVirtexIVPlus ignored => cmdBytes32 ignored 2
  | .cmdLfrmVirtexIVPlus ignored => cmdBytes32 ignored 3
  | .cmdRcfgVirtexIVPlus ignored => cmdBytes32 ignored 4
  | .cmdStartVirtexIVPlus ignored => cmdBytes32 ignored 5
  | .cmdRcapVirtexIVPlus ignored => cmdBytes32 ignored 6
  | .cmdRcrcVirtexIVPlus ignored => cmdBytes32 ignored 7
  | .cmdAghighVirtexIVPlus ignored => cmdBytes32 ignored 8
  | .cmdSwitchVirtexIVPlus ignored => cmdBytes32 ignored 9
  | .cmdGrestoreVirtexIVPlus ignored => cmdBytes32 ignored 10
  | .cmdShutdownVirtexIVPlus ignored => cmdBytes32 ignored 11
  | .cmdGcaptureVirtexIVPlus ignored => cmdBytes32 ignored 12
  | .cmdDesynchVirtexIVPlus ignored => cmdBytes32 ignored 13
  | .cmdIprogVirtexIVPlus ignored => cmdBytes32 ignored 15
  | .cmdCrccVirtexIVPlus ignored => cmdBytes32 ignored 16
  | .cmdLtimerVirtexIVPlus ignored => cmdBytes32 ignored 17
  | .cmdBspiReadVirtexIVPlus ignored => cmdBytes32 ignored 18
  | .cmdFallEdgeVirtexIVPlus ignored => cmdBytes32 ignored 19
  | .cmdNullSpartan3A => cmdBytes16 0
  | .cmdWcfgSpartan3A => cmdBytes16 1
  | .cmdMfwrSpartan3A => cmdBytes16 2
  | .cmdLfrmSpartan3A => cmdBytes16 3
  | .cmdRcfgSpartan3A => cmdBytes16 4
  | .cmdStartSpartan3A => cmdBytes16 5
  | .cmdRcrcSpartan3A => cmdBytes16 7
  | .cmdAghighSpartan3A => cmdBytes16 8
  | .cmdGrestoreSpartan3A => cmdBytes16 10
  | .cmdShutdownSpartan3A => cmdBytes16 11
  | .cmdDesynchSpartan3A => cmdBytes16 13
  | .cmdIprogSpartan3A => cmdBytes16 14
  | .cmdNullSpartan6 => cmdBytes16 0
  | .cmdWcfgSpartan6 => cmdBytes16 1
  | .cmdMfwrSpartan6 => cmdBytes16 2
  | .cmdLfrmSpartan6 => cmdBytes16 3
  | .cmdRcfgSpartan6 => cmdBytes16 4
  | .cmdStartSpartan6 => cmdBytes16 5
  | .cmdRcrcSpartan6 => cmdBytes16 7
  | .cmdAghighSpartan6 => cmdBytes16 8
  | .cmdGrestoreSpartan6 => cmdBytes16 10
  | .cmdShutdownSpartan6 => cmdBytes16 11
  | .cmdDesynchSpartan6 => cmdBytes16 13
  | .cmdIprogSpartan6 => cmdBytes16 14

/-- The place an instruction's bytes stand at (R173). -/
def Instr.place (i : Instr) : Place :=
  match i.form with
  | .afterFdri => .afterFdri
  | .word32 | .word16 | .type1Wide _ | .type1Narrow _ | .write _ _ | .command _ _ => .header

/-- Whether an instruction belongs to Synced mode (R59). -/
def Instr.synced (i : Instr) : Bool :=
  match i with
  | .dummy32 | .dummy16 | .widthDetect | .sync32 | .sync16 => false
  | .nop32 | .nop16 | .t1write32 _ _ _ | .t1write16 _ _ | .t2write _ | .lwrite _ | .bugFdri | .autoCrc _
  | .writeCrcVirtexOriginal _ _ | .writeFarVirtexOriginal _ _ | .writeFdriVirtexOriginal _ _
  | .writeCmdVirtexOriginal _ _ | .writeCtl0VirtexOriginal _ _ | .writeMaskVirtexOriginal _ _
  | .writeLoutVirtexOriginal _ _ | .writeCor0VirtexOriginal _ _ | .writeFlrVirtexOriginal _ _ | .writeCrcVirtexII _ _
  | .writeFarVirtexII _ _ | .writeFdriVirtexII _ _ | .writeCmdVirtexII _ _ | .writeCtl0VirtexII _ _
  | .writeMaskVirtexII _ _ | .writeLoutVirtexII _ _ | .writeCor0VirtexII _ _ | .writeMfwrVirtexII _ _
  | .writeFlrVirtexII _ _ | .writeKeyVirtexII _ _ | .writeCbcVirtexII _ _ | .writeIdcodeVirtexII _ _
  | .writeCrcVirtexIVPlus _ _ | .writeFarVirtexIVPlus _ _ | .writeFdriVirtexIVPlus _ _ | .writeCmdVirtexIVPlus _ _
  | .writeCtl0VirtexIVPlus _ _ | .writeMaskVirtexIVPlus _ _ | .writeLoutVirtexIVPlus _ _ | .writeCor0VirtexIVPlus _ _
  | .writeMfwrVirtexIVPlus _ _ | .writeCbcVirtexIVPlus _ _ | .writeIdcodeVirtexIVPlus _ _
  | .writeAxssVirtexIVPlus _ _ | .writeCor1VirtexIVPlus _ _ | .writeCsobVirtexIVPlus _ _
  | .writeWbstarVirtexIVPlus _ _ | .writeTimerVirtexIVPlus _ _ | .writeRbcrcSwVirtexIVPlus _ _
  | .writeCtl1VirtexIVPlus _ _ | .writeBspiVirtexIVPlus _ _ | .writeCrcSpartan3A _ | .writeFarMajSpartan3A _
  | .writeFarMinSpartan3A _ | .writeFdriSpartan3A _ | .writeCmdSpartan3A _ | .writeCtl0Spartan3A _
  | .writeMaskSpartan3A _ | .writeLoutSpartan3A _ | .writeCor1Spartan3A _ | .writeCor2Spartan3A _
  | .writePwrdnSpartan3A _ | .writeFlrSpartan3A _ | .writeIdcodeSpartan3A _ | .writeSnowplowSpartan3A _
  | .writeHcOptSpartan3A _ | .writeCsboSpartan3A _ | .writeGeneral1Spartan3A _ | .writeGeneral2Spartan3A _
  | .writeModeSpartan3A _ | .writePuGweSpartan3A _ | .writePuGtsSpartan3A _ | .writeMfwrSpartan3A _
  | .writeCclkFreqSpartan3A _ | .writeSeuOptSpartan3A _ | .writeExpSignSpartan3A _ | .writeRdbkSignSpartan3A _
  | .writeCrcSpartan6 _ | .writeFarMajSpartan6 _ | .writeFarMinSpartan6 _ | .writeFdriSpartan6 _
  | .writeCmdSpartan6 _ | .writeCtl0Spartan6 _ | .writeMaskSpartan6 _ | .writeLoutSpartan6 _ | .writeCor1Spartan6 _
  | .writeCor2Spartan6 _ | .writePwrdnSpartan6 _ | .writeFlrSpartan6 _ | .writeIdcodeSpartan6 _
  | .writeCwdtSpartan6 _ | .writeHcOptSpartan6 _ | .writeCsboSpartan6 _ | .writeGeneral1Spartan6 _
  | .writeGeneral2Spartan6 _ | .writeGeneral3Spartan6 _ | .writeGeneral4Spartan6 _ | .writeGeneral5Spartan6 _
  | .writeModeSpartan6 _ | .writePuGweSpartan6 _ | .writePuGtsSpartan6 _ | .writeMfwrSpartan6 _
  | .writeCclkFreqSpartan6 _ | .writeSeuOptSpartan6 _ | .writeExpSignSpartan6 _ | .writeRdbkSignSpartan6 _
  | .writeEyeMaskSpartan6 _ | .writeCbcRegSpartan6 _ | .cmdNullVirtexOriginal _ | .cmdWcfgVirtexOriginal _
  | .cmdLfrmVirtexOriginal _ | .cmdRcfgVirtexOriginal _ | .cmdStartVirtexOriginal _ | .cmdRcapVirtexOriginal _
  | .cmdRcrcVirtexOriginal _ | .cmdAghighVirtexOriginal _ | .cmdSwitchVirtexOriginal _ | .cmdNullVirtexII _
  | .cmdWcfgVirtexII _ | .cmdMfwrVirtexII _ | .cmdLfrmVirtexII _ | .cmdRcfgVirtexII _ | .cmdStartVirtexII _
  | .cmdRcapVirtexII _ | .cmdRcrcVirtexII _ | .cmdAghighVirtexII _ | .cmdSwitchVirtexII _ | .cmdGrestoreVirtexII _
  | .cmdShutdownVirtexII _ | .cmdGcaptureVirtexII _ | .cmdDesynchVirtexII _ | .cmdNullVirtexIVPlus _
  | .cmdWcfgVirtexIVPlus _ | .cmdMfwrVirtexIVPlus _ | .cmdLfrmVirtexIVPlus _ | .cmdRcfgVirtexIVPlus _
  | .cmdStartVirtexIVPlus _ | .cmdRcapVirtexIVPlus _ | .cmdRcrcVirtexIVPlus _ | .cmdAghighVirtexIVPlus _
  | .cmdSwitchVirtexIVPlus _ | .cmdGrestoreVirtexIVPlus _ | .cmdShutdownVirtexIVPlus _ | .cmdGcaptureVirtexIVPlus _
  | .cmdDesynchVirtexIVPlus _ | .cmdIprogVirtexIVPlus _ | .cmdCrccVirtexIVPlus _ | .cmdLtimerVirtexIVPlus _
  | .cmdBspiReadVirtexIVPlus _ | .cmdFallEdgeVirtexIVPlus _ | .cmdNullSpartan3A | .cmdWcfgSpartan3A
  | .cmdMfwrSpartan3A | .cmdLfrmSpartan3A | .cmdRcfgSpartan3A | .cmdStartSpartan3A | .cmdRcrcSpartan3A
  | .cmdAghighSpartan3A | .cmdGrestoreSpartan3A | .cmdShutdownSpartan3A | .cmdDesynchSpartan3A | .cmdIprogSpartan3A
  | .cmdNullSpartan6 | .cmdWcfgSpartan6 | .cmdMfwrSpartan6 | .cmdLfrmSpartan6 | .cmdRcfgSpartan6 | .cmdStartSpartan6
  | .cmdRcrcSpartan6 | .cmdAghighSpartan6 | .cmdGrestoreSpartan6 | .cmdShutdownSpartan6 | .cmdDesynchSpartan6
  | .cmdIprogSpartan6 => true

/-- Whether an instruction is a generic Type-1 header, the row that the `WRITE_` and `CMD_` rows specialise. -/
def Instr.generic (i : Instr) : Bool :=
  match i.form with
  | .type1Wide _ | .type1Narrow _ => true
  | .word32 | .word16 | .afterFdri | .write _ _ | .command _ _ => false

/-- The configuration the opcode table is read under: the defaults of R9, both OPEN parameters empty. -/
def tableConfig : Config := Config.standard ⟨[], [], [], [], []⟩ []

/-- The bytes of an opcode-table number of `n` bytes, most significant first: the order in which the table writes its rows
of more than one word (log entry 7). -/
def tableBytes (n w : Nat) : List Byte :=
  ((List.range n).map fun i => BitVec.ofNat 8 (w >>> (8 * i))).reverse

/-- The same number with its words of `wb` bytes counted from the low end, the first word lowest (log entry 7). -/
def tableBytesLowFirst (wb n w : Nat) : List Byte :=
  ((List.range (n / wb)).map fun i => tableBytes wb (w >>> (8 * wb * i))).flatten

/-- A row read from the opcode table: the kind it is read for, the bytes in buffer order, the instruction. -/
structure TableRow where
  kind : DeviceKind
  bytes : List Byte
  instr : Instr
deriving DecidableEq, Repr

/-- The length in bytes of the longest encoding: a 32-bit header and its code or confirmation word. -/
def longestEncoding : Nat := 8

/-- Bytes followed by zeros up to the longest encoding. -/
def zeroPadded (bs : List Byte) : List Byte := bs ++ List.replicate (longestEncoding - bs.length) 0

/-- The row that bytes, followed by zeros, hold for one kind: the decoder's instruction, if the bytes hold at least one word
of the kind and the instruction takes up all of them. -/
def rowFor (bs : List Byte) (k : DeviceKind) : Option TableRow :=
  if bs.length < k.wordBytes then none
  else
    match decode tableConfig k .header (zeroPadded bs) with
    | .ok i => if bs.length ≤ (encode i).length then some ⟨k, zeroPadded bs, i⟩ else none
    | .error _ => none

/-- The kinds in the order in which a word that several rows share is read (log entry 6). -/
def tableKinds : List DeviceKind := [.virtexII, .virtexOriginal, .virtexIVPlus, .spartan3A, .spartan6]

/-- The row of the opcode table that `nbits` bits hold: a specialised row before a generic one, the table's own order of
words before the low-first order, an auto-checksum word last (log entries 6 and 7). -/
def tableRow (nbits w : Nat) : Option TableRow :=
  let big := tableBytes (nbits / 8) w
  let rows := tableKinds.filterMap (rowFor big)
  match rows.find? fun r => !r.instr.generic with
  | some r => some r
  | none =>
    match rows.head? with
    | some r => some r
    | none =>
      match (tableKinds.filterMap fun k => rowFor (tableBytesLowFirst k.wordBytes (nbits / 8) w) k).head? with
      | some r => some r
      | none =>
        if nbits = 32 then
          match decode tableConfig .virtexIVPlus .afterFdri big with
          | .ok i => some ⟨.virtexIVPlus, zeroPadded big, i⟩
          | .error _ => none
        else none

/-- The instruction the decoder reads from an opcode-table word (the host's numbering of bits, log entry 7). -/
def decodeTableWord (nbits w : Nat) : Option Instr := (tableRow nbits w).map TableRow.instr

end Sys2Proof
end

