-- ==== Sys2Proof/Machine/Fetch.lean ====
section
/-!
DEFINITION. Reading the next packet's header (spec/45_sequence.md R178) and placing an instruction where the next step reads
it (log entry 4).
-/

namespace Sys2Proof.Machine

/-- What the reading of a header comes to: the step is settled without a packet, or there is an instruction to run. -/
inductive Fetched where
  | settled (s : State)
  | run (i : Instr)
deriving DecidableEq, Repr

/-- The bytes the decoder sees: up to the longest encoding, no byte at or past `len` (R50). -/
def State.fetchBytes (s : State) : List Byte :=
  s.buf.slice s.position (min longestEncoding (s.buf.len - s.position))

/-- The top of a step (R178): nothing happens once the session has ended or failed (R182); at `len` the sequence ends (R181);
a partial header word is `Truncated`; a header word of no class is `UnexpectedWord` (R68, R95). -/
def fetch (s : State) : Fetched :=
  if s.status = .running then
    if s.position = s.buf.len then .settled s.finish
    else if s.buf.len - s.position < s.kind.wordBytes then .settled (s.fail .truncated s.position)
    else
      match decode s.cfg s.kind .header s.fetchBytes with
      | .ok i => .run i
      | .error _ => .settled (s.fail .unexpectedWord s.position)
  else .settled s

/-- The state with bytes placed at its position. -/
def State.withBytes (s : State) (bs : List Byte) : State := { s with buf := s.buf.place s.position bs }

/-- The state made ready to run a row of the opcode table next (log entry 4): a running session of the row's kind in the
row's mode, under the default tables, with the row's bytes at the position. An auto-checksum word is placed after the
empty data of a long write to Fdri, the only place it stands at (R173). -/
def launchRow (s : State) (r : TableRow) : State :=
  let s :=
    { s with
      kind := r.kind
      cfg := Config.standard s.cfg.debugExempt s.cfg.autoCrcKinds
      synced := r.instr.synced
      status := .running }
  match r.instr.place with
  | .header => s.withBytes r.bytes
  | .afterFdri =>
    { s with
      cfg := Config.standard s.cfg.debugExempt [r.kind]
      lastRegister := some 2 }.withBytes (encode (.t2write 0) ++ r.bytes)

/-- The state with the bits of an opcode-table word placed where the next step reads its header. -/
def placeTableWord (s : State) (nbits w : Nat) : State :=
  match tableRow nbits w with
  | some r => launchRow s r
  | none => s.withBytes (zeroPadded (tableBytes (nbits / 8) w))

end Sys2Proof.Machine
end

