-- ==== Sys2Proof/Machine/Step.lean ====
section
/-!
DEFINITION. One step, the state change of `Next` (spec/45_sequence.md R178).
-/

namespace Sys2Proof.Machine

/-- One step: read the header, run the instruction it is (R178). -/
def step (s : State) : Host.Outcome State Fault Refusal :=
  match fetch s with
  | .settled t => .next t
  | .run i => exec i s

/-- The state with an opcode-table word stored where `step` fetches its next instruction, and the session made ready to run
it (log entry 4). -/
def State.withFetchWord (s : State) (nbits w : Nat) : State := placeTableWord s nbits w

end Sys2Proof.Machine
end

