-- ==== Sys2Proof/Machine/Session.lean ====
section
/-!
DEFINITION. The host's operations over a session beside `Start` (`State.start`) and the state change of `Next` (`step`):
the result `Next` returns, `Peek`, and the event stream (spec/45_sequence.md R176, R177, R184).
-/

namespace Sys2Proof.Machine

/-- The result `Next` returns: `End` once the session has ended or failed (R182), else the result the step added to the
stream (R177, R178); nothing only where there is no next state, which never is (R194). -/
def nextResult (s : State) : Option StepResult :=
  if s.status = .running then
    match step s with
    | .next t => t.results.getLast?
    | .fault _ => none
    | .refused _ => none
  else some .endOfSequence

/-- `Peek(s)`: the result `Next(s)` would return, and the session unchanged (R184). -/
def peek (s : State) : Option StepResult × State := (nextResult s, s)

/-- The events a result carries (R177). -/
def StepResult.events : StepResult → List CrcCheck
  | .packet _ _ evs => evs
  | .endOfSequence => []
  | .error _ _ => []

/-- The event stream: the events of the results in order (R177). -/
def State.eventStream (s : State) : List CrcCheck := s.results.flatMap StepResult.events

end Sys2Proof.Machine
end

