-- ==== Sys2Proof/Safety.lean ====
section
/-!
DEFINITION. The terms the statements use: a legal configuration, the invariants of a session, and what a row of the opcode
table does, written out from the rules of the spec over the state's plain fields.
-/

namespace Sys2Proof.Machine

/-- The cardinality of the Crc register: one word in the 32-bit kinds, two in the 16-bit kinds (R103). -/
def crcCard (k : DeviceKind) : Card := if k.wordBytes = 4 then .one else .two

/-- A configuration the spec allows for a kind: exactly one Cmd entry, of one word (R41, R107), exactly one Fdri entry, of
variable length (R41, R104), exactly one Crc entry, at id 0 and 32 bits wide (R41, R103), ids and codes listed once (R32,
R145), the Cmd and Fdri registers not exempt from the checksum (R82). -/
def legalConfig (c : Config) (k : DeviceKind) : Bool :=
  let table := c.regTable.get k
  (table.filter fun e => e.tag == .cmd).map (fun e => e.card) == [.one]
    && (table.filter fun e => e.tag == .fdri).map (fun e => e.card) == [.var]
    && (table.filter fun e => e.tag == .crc) == [⟨0, .crc, crcCard k⟩]
    && decide (table.map fun e => e.id).Nodup
    && decide ((c.cmdTable.get k).map fun e => e.code).Nodup
    && table.all fun e => !((e.tag == .cmd || e.tag == .fdri) && (c.debugExempt.get k).contains e.id)

/-- The state an error leaves: the status and the result, nothing else (R191). -/
def State.errored (s : State) (kind : ErrorKind) (offset : Nat) : State :=
  { s with status := .failed kind offset, results := s.results ++ [.error kind offset] }

/-- The state a packet that touches no register leaves: cursor, mode and result (R91 to R96). -/
def State.framed (s : State) (bytes : Nat) (synced : Bool) (pkt : Packet) : State :=
  { s with
    position := s.position + bytes
    synced := synced
    results := s.results ++ [.packet pkt s.position []] }

/-- The state a committed Type-1 write leaves: cursor, `last_register`, accumulator, result (R97). -/
def State.wrote (s : State) (reg : RegId) (bytes : Nat) (sum : BitVec 32) (pkt : Packet) (events : List CrcCheck) : State :=
  { s with
    position := s.position + bytes
    lastRegister := some reg
    checksum := sum
    results := s.results ++ [.packet pkt s.position events] }

/-- The state a committed long write or BugFdri run leaves: cursor, accumulator, result (R167, R174). -/
def State.wroteLong (s : State) (bytes : Nat) (sum : BitVec 32) (pkt : Packet) (events : List CrcCheck) : State :=
  { s with
    position := s.position + bytes
    checksum := sum
    results := s.results ++ [.packet pkt s.position events] }

/-- The accumulator after the words of a write to a register that is not the Crc register (R81, R82). -/
def State.fed (s : State) (reg : RegId) (words : List Word) : BitVec 32 :=
  if reg ∈ s.debugExempt then s.checksum else feedAll s.kind s.checksum words reg

/-- The bytes from `p` to `q - 1` are all zero. -/
def zeroBytes (m : Memory) (p q : Nat) : Prop := ∀ a, p ≤ a → a < q → m.get a = 0

/-- The accumulator after the data words of a write to a register with entry `e` (R97, R167, R81, R34). -/
def State.fedLong (s : State) (e : RegEntry) (reg : RegId) (words : List Word) : BitVec 32 :=
  if e.tag = .crc then s.checksum else s.fed reg words

/-- The value `n` words of `wb` bytes at `p` carry (R99, R46); for a count that R99 says nothing of it is the free value of log
entry 27. -/
def writtenValue (m : Memory) (wb n p : Nat) : RegValue :=
  if n = 1 then
    if wb = 2 then .bits16 ((m.read p 2).setWidth 16) else .bits32 (m.read p 4)
  else if n = 2 then
    if wb = 2 then .bits32 (m.read p 4) else .bits64 (m.read p 4 ++ m.read (p + 4) 4)
  else .bits32 (unstatedCrcValue wb (wordsAt m p wb n))

/-- The events of a Type-1 write to a register with entry `e`: for the Crc register the comparison of the value at `p` with the
accumulator (R97, R86, R87). -/
def State.comparisons (s : State) (e : RegEntry) (p : Nat) (v : RegValue) : List CrcCheck :=
  if e.tag = .crc then [⟨p, v, s.checksum, v.toNat == s.checksum.toNat⟩] else []

/-- Whether a word count breaks a cardinality (R97). -/
def wrongCount (card : Card) (n : Nat) : Prop := (card = .one ∧ n ≠ 1) ∨ (card = .two ∧ n ≠ 2)

/-- What `Type1Write` does with an instruction `i` that is a Type-1 write of `n` words of `wb` bytes to register `reg`, under
every configuration (R97, R98), error by error and packet by packet. -/
def Type1Procedure (wb : Nat) (i : Instr) (reg : RegId) (n : Nat) : Prop :=
  ∀ s : State, s.synced = true →
    let p := s.position + wb
    let q := p + n * wb
    let bytes := wb + n * wb
    (s.buf.len < q → exec i s = .next (s.errored .truncated s.position)) ∧
    (q ≤ s.buf.len → s.lookupReg reg = none → exec i s = .next (s.errored .unknownRegister s.position)) ∧
    ∀ e : RegEntry, q ≤ s.buf.len → s.lookupReg reg = some e →
      let sum := s.fedLong e reg (wordsAt s.buf p wb n)
      let code := s.buf.read p wb
      let v := writtenValue s.buf wb n p
      (wrongCount e.card n → exec i s = .next (s.errored .unexpectedWordCount s.position)) ∧
      (¬ wrongCount e.card n →
        (e.tag = .cmd → n = 0 → exec i s = .next (s.errored .unexpectedWordCount s.position)) ∧
        (e.tag = .cmd → n ≠ 0 → s.lookupCmd code = none →
          exec i s = .next (s.errored .unknownCommand s.position)) ∧
        (e.tag = .cmd → n ≠ 0 → ∀ c, s.lookupCmd code = some c →
          exec i s = .next (s.wrote reg bytes (if c = .rcrc then 0 else sum) (.command c) [])) ∧
        (e.tag = .mfwr → ¬ zeroBytes s.buf p q → exec i s = .next (s.errored .malformedPadding s.position)) ∧
        (e.tag = .mfwr → zeroBytes s.buf p q → exec i s = .next (s.wrote reg bytes sum (.mfwr n) [])) ∧
        (e.tag = .fdri → exec i s = .next (s.wrote reg bytes sum (.fdri ⟨p, n * wb⟩) [])) ∧
        (e.tag ≠ .cmd → e.tag ≠ .mfwr → e.tag ≠ .fdri →
          (e.card = .var →
            exec i s = .next (s.wrote reg bytes sum (.window e.tag ⟨p, n * wb⟩) (s.comparisons e p v))) ∧
          (e.card ≠ .var → e.tag = .crc →
            exec i s = .next (s.wrote reg bytes sum (.crc v) (s.comparisons e p v))) ∧
          (e.card ≠ .var → e.tag ≠ .crc → exec i s = .next (s.wrote reg bytes sum (.value e.tag v) []))))

/-- What a `WRITE_` row of `wb`-byte words does before its packet is built, `need` being its fixed word count, if it has
one: in Synced mode a write whose data words are cut is `Truncated`, then one of another count is `UnexpectedWordCount`,
and any other leaves the state `ok` (R97, R100). -/
def RowOutcome (k : DeviceKind) (i : Instr) (need : Option Nat) (n : Nat) (ok : State → State) : Prop :=
  ∀ s : State, s.kind = k → s.synced = true →
    (s.buf.len < s.position + k.wordBytes + n * k.wordBytes → exec i s = .next (s.errored .truncated s.position)) ∧
    (s.position + k.wordBytes + n * k.wordBytes ≤ s.buf.len → (∃ c, need = some c ∧ n ≠ c) →
      exec i s = .next (s.errored .unexpectedWordCount s.position)) ∧
    (s.position + k.wordBytes + n * k.wordBytes ≤ s.buf.len → (∀ c, need = some c → n = c) → exec i s = .next (ok s))

/-- What a `WRITE_` row of a fixed one-word register of a 32-bit kind does (R97, R108 to R144). -/
def WideValueRow (k : DeviceKind) (row : BitVec 2 → BitVec 11 → Instr) (reg : RegId) (tag : Tag) : Prop :=
  ∀ ignored wc, RowOutcome k (row ignored wc) (some 1) wc.toNat fun s =>
    let w := s.buf.read (s.position + 4) 4
    s.wrote reg 8 (s.fed reg [w]) (.value tag (.bits32 w)) []

/-- What a `WRITE_` row of a fixed one-word register of a 16-bit kind does (R97, R108 to R144). -/
def NarrowValueRow (k : DeviceKind) (row : BitVec 5 → Instr) (reg : RegId) (tag : Tag) : Prop :=
  ∀ wc, RowOutcome k (row wc) (some 1) wc.toNat fun s =>
    let w := s.buf.read (s.position + 2) 2
    s.wrote reg 4 (s.fed reg [w]) (.value tag (.bits16 (w.setWidth 16))) []

/-- What a `WRITE_` row of a fixed two-word register of a 16-bit kind does: the first word is the high half (R99). -/
def NarrowPairRow (k : DeviceKind) (row : BitVec 5 → Instr) (reg : RegId) (tag : Tag) : Prop :=
  ∀ wc, RowOutcome k (row wc) (some 2) wc.toNat fun s =>
    let w0 := s.buf.read (s.position + 2) 2
    let w1 := s.buf.read (s.position + 4) 2
    s.wrote reg 6 (s.fed reg [w0, w1]) (.value tag (.bits32 (w0.setWidth 16 ++ w1.setWidth 16))) []

/-- What a `WRITE_Crc` row does: the packet and its one event; the accumulator stays (R103, R86, R87). -/
def CrcRow (k : DeviceKind) (i : Instr) (need n : Nat) : Prop :=
  RowOutcome k i (some need) n fun s =>
    let p := s.position + k.wordBytes
    let v := s.buf.read p 4
    s.wrote 0 (k.wordBytes + 4) s.checksum (.crc (.bits32 v)) [⟨p, .bits32 v, s.checksum, v == s.checksum⟩]

/-- What a `WRITE_` row of a variable-length register that is not Mfwr does, at any word count (R104, R106, R101). -/
def WindowRow (k : DeviceKind) (i : Instr) (reg : RegId) (n : Nat) (pkt : Window → Packet) : Prop :=
  RowOutcome k i none n fun s =>
    let wb := k.wordBytes
    let p := s.position + wb
    s.wrote reg (wb + n * wb) (s.fed reg (wordsAt s.buf p wb n)) (pkt ⟨p, n * wb⟩) []

/-- What a `WRITE_Mfwr` row does: all-zero data words give the packet, any other byte `MalformedPadding` (R105). -/
def PaddingRow (k : DeviceKind) (i : Instr) (reg : RegId) (n : Nat) : Prop :=
  ∀ s : State, s.kind = k → s.synced = true →
    let wb := k.wordBytes
    let p := s.position + wb
    let q := p + n * wb
    (s.buf.len < q → exec i s = .next (s.errored .truncated s.position)) ∧
    (q ≤ s.buf.len → ¬ zeroBytes s.buf p q → exec i s = .next (s.errored .malformedPadding s.position)) ∧
    (q ≤ s.buf.len → zeroBytes s.buf p q →
      exec i s = .next (s.wrote reg (wb + n * wb) (s.fed reg (wordsAt s.buf p wb n)) (.mfwr n) []))

/-- What a `WRITE_Cmd` row does: the one data word is looked up in the session's command table; it is fed, then `CmdRcrc`
zeroes the accumulator (R107, R145, R84). -/
def CommandRegisterRow (k : DeviceKind) (i : Instr) (reg : RegId) (n : Nat) : Prop :=
  ∀ s : State, s.kind = k → s.synced = true →
    let wb := k.wordBytes
    let p := s.position + wb
    let code := s.buf.read p wb
    (s.buf.len < p + n * wb → exec i s = .next (s.errored .truncated s.position)) ∧
    (p + n * wb ≤ s.buf.len → n ≠ 1 → exec i s = .next (s.errored .unexpectedWordCount s.position)) ∧
    (p + n * wb ≤ s.buf.len → n = 1 → s.lookupCmd code = none →
      exec i s = .next (s.errored .unknownCommand s.position)) ∧
    (p + n * wb ≤ s.buf.len → n = 1 → ∀ c, s.lookupCmd code = some c →
      exec i s = .next (s.wrote reg (2 * wb) (if c = .rcrc then 0 else s.fed reg [code]) (.command c) []))

/-- What a `CMD_` row does: the command packet, its code fed with the command register's id, and 0 after `CmdRcrc`; cut
data are `Truncated` (R107, R145, R147, R84). -/
def CommandRow (k : DeviceKind) (i : Instr) (reg : RegId) (code : Word) (c : Command) : Prop :=
  RowOutcome k i none 1 fun s =>
    s.wrote reg (2 * k.wordBytes) (if c = .rcrc then 0 else s.fed reg [code]) (.command c) []

/-- The packet of a long write, by the tag of its register (R168). -/
def LongPacket (m : Memory) (tag : Tag) (p wb n : Nat) (pkt : Packet) : Prop :=
  (tag = .fdri ∧ pkt = .fdri ⟨p, n * wb⟩) ∨
  (tag = .mfwr ∧ zeroBytes m p (p + n * wb) ∧ pkt = .mfwr n) ∨
  (tag ≠ .fdri ∧ tag ≠ .mfwr ∧ pkt = .window tag ⟨p, n * wb⟩)

/-- The register and its table entry that a 16-bit long write targets (R172). -/
def LongTarget16 (s : State) (low : BitVec 11) (reg : RegId) : Prop :=
  (s.cfg.lw16RegSource = .lastRegister ∧ s.lastRegister = some reg) ∨
  (s.cfg.lw16RegSource = .headerField ∧ reg = (low.extractLsb' 5 6).toNat)

/-- The word just after the data of a long write, its comparison and the state it leaves (R173, R85): `sum` is the
accumulator after the data words, `used` the bytes up to the end of the data. -/
def State.wroteChecked (s : State) (used : Nat) (sum : BitVec 32) (pkt : Packet) : State :=
  let a := s.buf.read (s.position + used) 4
  s.wroteLong (used + 4) (if a = sum then 0 else sum) pkt [⟨s.position + used, .bits32 a, sum, a == sum⟩]

/-- A run of exactly `n` zero words starts at the header: every word after the header up to the `n`-th is zero, and the next
is not zero or is cut (R174). -/
def ZeroRun (s : State) (n : Nat) : Prop :=
  0 < n ∧
  (∀ i, 0 < i → i < n → s.position + 4 * i + 4 ≤ s.buf.len ∧ s.buf.read (s.position + 4 * i) 4 = 0) ∧
  (s.position + 4 * n + 4 ≤ s.buf.len → s.buf.read (s.position + 4 * n) 4 ≠ 0)

/-- Whether a result is a packet. -/
def StepResult.isPacket : StepResult → Bool
  | .packet _ _ _ => true
  | .endOfSequence => false
  | .error _ _ => false

/-- Whether a result is the Sync Word's packet. -/
def StepResult.isSyncWord : StepResult → Bool
  | .packet .syncWord _ _ => true
  | _ => false

/-- Whether a result may stand before the Sync Word (R89). -/
def StepResult.isPreSync : StepResult → Bool
  | .packet .dummyWord _ _ => true
  | .packet .widthDetect _ _ => true
  | .packet _ _ _ => false
  | .endOfSequence => true
  | .error _ _ => true

/-- The header offset of a packet. -/
def StepResult.packetOffset : StepResult → Option Nat
  | .packet _ offset _ => some offset
  | .endOfSequence => none
  | .error _ _ => none

/-- The window a packet carries. -/
def Packet.window? : Packet → Option Window
  | .fdri w => some w
  | .window _ w => some w
  | .bugFdri w => some w
  | _ => none

/-- The cursor invariant: `position` is a multiple of the word size and never exceeds the buffer's length (R20, R52,
R179). -/
def State.CursorOk (s : State) : Prop := s.position ≤ s.buf.len ∧ s.kind.wordBytes ∣ s.position

/-- The accumulator stays below its kind's bound (R23, R77, R80). -/
def State.ChecksumOk (s : State) : Prop := s.checksum.toNat < checksumBound s.kind

/-- `last_register` always has a table entry (R167). -/
def State.LastRegisterOk (s : State) : Prop := ∀ reg, s.lastRegister = some reg → (s.lookupReg reg).isSome = true

/-- The results are packets, followed by exactly one `End` or `Error` once the session has ended or failed (R177, R182),
and the packets' header offsets rise strictly, below the position (R58, R179). -/
def State.StreamOk (s : State) : Prop :=
  (match s.status with
    | .running => s.results.all StepResult.isPacket = true
    | .ended => ∃ ps : List StepResult, s.results = ps ++ [.endOfSequence] ∧ ps.all StepResult.isPacket = true
    | .failed kind offset =>
      ∃ ps : List StepResult, s.results = ps ++ [.error kind offset] ∧ ps.all StepResult.isPacket = true) ∧
  (s.results.filterMap StepResult.packetOffset).Pairwise (· < ·) ∧
  ∀ a ∈ s.results.filterMap StepResult.packetOffset, a < s.position

/-- Whether an event's `expected` is the big-endian value of its width at its offset, within the first `pos` bytes (R45, R87). -/
def CrcCheck.Reads (m : Memory) (pos : Nat) (ev : CrcCheck) : Prop :=
  match ev.expected with
  | .bits16 v => ev.offset + 2 ≤ pos ∧ v = (m.read ev.offset 2).setWidth 16
  | .bits32 v => ev.offset + 4 ≤ pos ∧ v = m.read ev.offset 4
  | .bits64 v => ev.offset + 8 ≤ pos ∧ v = m.read ev.offset 4 ++ m.read (ev.offset + 4) 4

/-- The Crc entries of a table are of a fixed length (R41, R103): there the value of every Crc write is stated (R99). -/
def crcFixed (c : Config) (k : DeviceKind) : Bool := (c.regTable.get k).all fun e => !(e.tag == .crc && e.card == .var)

/-- Every event tells the truth: `matched` is the comparison of its two values, `expected` is the value in the buffer at its
offset, within the bytes consumed (where Crc entries are of a fixed length), and a result carries at most one event (R87,
R177); every window a packet carries lies within the bytes consumed (R210). -/
def State.OutputsOk (s : State) : Prop :=
  (∀ ev ∈ s.eventStream,
    ev.matched = (ev.expected.toNat == ev.computed.toNat) ∧
    (crcFixed s.cfg s.kind = true → ev.Reads s.buf s.position)) ∧
  (∀ r ∈ s.results, r.events.length ≤ 1) ∧
  ∀ pkt offset events, .packet pkt offset events ∈ s.results → ∀ w, pkt.window? = some w →
    offset ≤ w.offset ∧ w.offset + w.length ≤ s.position

/-- The mode's history: exactly one Sync Word stands in the stream once synced and none before, and before it nothing but
framing has been decoded, no register has been written and nothing has been fed (R21, R22, R89, R81). -/
def State.ModeOk (s : State) : Prop :=
  s.results.countP StepResult.isSyncWord = s.synced.toNat ∧
  (s.synced = false →
    s.lastRegister = none ∧ s.checksum = 0 ∧ s.results.all StepResult.isPreSync = true)

end Sys2Proof.Machine
end

