-- ==== Sys2Proof/Certificates/Slice0/Obligations.lean ====
section
/-!
DEFINITION. The statements for the provers. A rule that spec/ marks as its own decision or inference is named in the docstring
with that mark; the statement then has basis 'derived'.
-/

open Sys2Proof
open Sys2Proof.Machine

/-! ## Encoding -/

/-- The five words R74 quotes from the source decode to the packets it names, in a VirtexII session (model's choice: the
session's configuration, log entry 2). -/
def Obligations.SourceWordsDecode : Prop :=
  let c := Config.standard ⟨[], [], [], [], []⟩ []
  decode c .virtexII .header [0xFF, 0xFF, 0xFF, 0xFF] = .ok .dummy32 ∧
  decode c .virtexII .header [0xAA, 0x99, 0x55, 0x66] = .ok .sync32 ∧
  decode c .virtexII .header [0x20, 0x00, 0x00, 0x00] = .ok .nop32 ∧
  decode c .virtexII .header [0x30, 0x00, 0x80, 0x01] = .ok (.writeCmdVirtexII 0 1) ∧
  decode c .virtexII .header [0x30, 0x00, 0x80, 0x01, 0x00, 0x00, 0x00, 0x00] = .ok (.cmdNullVirtexII 0)

/-- DECODE AND ENCODE AGREE: the bytes of a well-formed instruction decode to it, every operand at every value; so do the
bytes followed by any others, but for a `WRITE_Cmd` header, which the word after it may turn into a `CMD_` row. -/
def Obligations.EncodedInstructionDecodesToItself : Prop :=
  ∀ (c : Config) (k : DeviceKind) (i : Instr), i.wf c k = true →
    decode c k i.place (encode i) = .ok i ∧
    ((∀ rk e, i.form = .write rk e → e.tag ≠ .cmd) →
      ∀ rest : List Byte, decode c k i.place (encode i ++ rest) = .ok i)

/-- What the decoder reads is well-formed for the session and loses no bit: the instruction's encoding has the header word
that was decoded, and a `CMD_` row the code word after it too. -/
def Obligations.DecodedInstructionKeepsItsBits : Prop :=
  ∀ (c : Config) (k : DeviceKind) (p : Place) (bs : List Byte) (i : Instr), decode c k p bs = .ok i →
    i.wf c k = true ∧ i.place = p ∧
    (let n := if p = .afterFdri then 4 else k.wordBytes
     n ≤ bs.length ∧ (encode i).take n = bs.take n) ∧
    (∀ rk e, i.form = .command rk e → encode i <+: bs)

/-- The decoder refuses a header exactly where it matches no header pattern of its width, in either mode and under any quirk flag,
whatever follows. Mode and flags are tested by the meaning, not by the decoder: the model's choice, log entry 16 (R59, R67
and R68 are marked [decision] and [derived]). -/
def Obligations.DecoderRefusesExactlyTheIllegalHeaders : Prop :=
  ∀ (c : Config) (k : DeviceKind) (rest : List Byte),
    (k.wordBytes = 4 → ∀ hdr : BitVec 32,
      (decode c k .header (bytes32 hdr ++ rest) = .error (.illegalWord hdr) ↔
        hdr ∉ [0xFFFFFFFF#32, 0x000000BB#32, 0xAA995566#32, 0x00000000#32, 0x20000000#32] ∧
        hdr >>> 27 ≠ 0b00110#32 ∧ hdr >>> 27 ≠ 0b01010#32)) ∧
    (k.wordBytes = 2 → ∀ hdr : BitVec 16,
      (decode c k .header (bytes16 hdr ++ rest) = .error (.illegalWord (hdr.setWidth 32)) ↔
        hdr ∉ [0xFFFF#16, 0xAA99#16, 0x2000#16] ∧
        hdr >>> 11 ≠ 0b00110#16 ∧ hdr >>> 11 ≠ 0b01010#16))

/-! ## The Word Cursor -/

/-- R47: `read_u16` and `read_u32` give the big-endian value and the position advanced by the word size, and fail, with no
value and no new position, exactly when fewer bytes remain. -/
def Obligations.ReadWordIsBigEndianAndBounded : Prop :=
  ∀ (m : Memory) (pos : Nat),
    (pos + 2 ≤ m.len →
      ∃ v : Word, readWord m pos 2 = some (v, pos + 2) ∧
        v.toNat = (m.get pos).toNat <<< 8 + (m.get (pos + 1)).toNat) ∧
    (pos + 4 ≤ m.len →
      ∃ v : Word, readWord m pos 4 = some (v, pos + 4) ∧
        v.toNat = (m.get pos).toNat <<< 24 + (m.get (pos + 1)).toNat <<< 16 + (m.get (pos + 2)).toNat <<< 8 +
          (m.get (pos + 3)).toNat) ∧
    (m.len < pos + 2 → readWord m pos 2 = none) ∧
    (m.len < pos + 4 → readWord m pos 4 = none)

/-- R49: a window is the pair of offset and length, its bytes are those of the buffer in order, and it fails exactly when the
length exceeds what remains. -/
def Obligations.WindowIsABoundedView : Prop :=
  ∀ (m : Memory) (pos nbytes : Nat),
    (pos + nbytes ≤ m.len →
      ∃ w : Window, readWindow m pos nbytes = some (w, pos + nbytes) ∧ w.offset = pos ∧ w.length = nbytes ∧
        (w.bytes m).length = nbytes ∧ ∀ i, i < nbytes → (w.bytes m)[i]? = m.byte (pos + i)) ∧
    (m.len < pos + nbytes → readWindow m pos nbytes = none)

/-- A step sees no byte outside the buffer: two buffers of one length that agree on every offset below it take the same step
(R50; the cell lists may differ, log entry 5). -/
def Obligations.StepReadsOnlyBytesOfTheBuffer : Prop :=
  ∀ (s t : State) (m : Memory), m.len = s.buf.len → (∀ a, a < m.len → m.byte a = s.buf.byte a) →
    step s = .next t → step { s with buf := m } = .next { t with buf := m }

/-! ## The Checksum Engine -/

/-- The values R77 and R79 compute in their examples (marked [derived] there). -/
def Obligations.FeedGivesTheSpecsExamples : Prop :=
  feed .virtexOriginal 0 0 4 = 0xF001 ∧
  feed .virtexII 0 0 4 = 0xD801 ∧
  feed .virtexIVPlus 0 0 4 = 0x20BD8EDE ∧
  feed .spartan3A 0 0 5 = 0x050000 ∧
  feed .spartan6 0x050000 0x0007 5 = 0x0F0007 ∧
  feed .spartan6 0x200000 0x0000 0 = 0x009081

/-- An accumulator below its kind's bound, `2^ACCW` or `2^22` in the Rotate kinds, stays below it (R77; R80, marked
[derived]). -/
def Obligations.FeedStaysBelowTheBound : Prop :=
  ∀ (k : DeviceKind) (acc : BitVec 32) (data : Word) (reg : RegId),
    acc.toNat < checksumBound k → (feed k acc data reg).toNat < checksumBound k

/-- Every variant is linear over exclusive-or, in the accumulator, the data word and the register id together: an inference
from the pseudocode of R77 and R79. -/
def Obligations.FeedIsLinear : Prop :=
  ∀ (k : DeviceKind) (acc acc' : BitVec 32) (data data' : Word) (reg reg' : RegId),
    feed k (acc ^^^ acc') (data ^^^ data') (reg ^^^ reg') = feed k acc data reg ^^^ feed k acc' data' reg'

/-- An update never merges two accumulators: a difference, once there, lasts through every word fed until a reset (an
inference from R77 and R79). -/
def Obligations.FeedingKeepsAccumulatorsApart : Prop :=
  ∀ (k : DeviceKind) (words : List Word) (reg : RegId) (a b : BitVec 32),
    a.toNat < checksumBound k → b.toNat < checksumBound k →
    feedAll k a words reg = feedAll k b words reg → a = b

/-! ## The sequence -/

/-- The state at session start, field by field, for every launch, and the machine's reset state, which is the start of a
VirtexII session over the empty buffer (R206 is marked [decision]; the launch of reset is the model's choice, log entry 2). -/
def Obligations.SessionStartState : Prop :=
  (∀ (k : DeviceKind) (c : Config) (b : Memory),
    let s := State.start k c b
    s.position = 0 ∧ s.synced = false ∧ s.lastRegister = none ∧ s.checksum = 0 ∧ s.status = .running ∧
    s.results = [] ∧ s.eventStream = [] ∧ s.kind = k ∧ s.cfg = c ∧ s.buf = b) ∧
  State.reset = State.start .virtexII (Config.standard ⟨[], [], [], [], []⟩ []) Memory.empty ∧
  (∀ k, legalConfig State.reset.cfg k = true) ∧ State.reset.buf.len = 0

/-- A STEP RUNS THE DECODED INSTRUCTION: when a running session has a whole header word left and the bytes at the position
(at most the longest encoding, none past the buffer) decode to `i`, the step is `i`'s meaning and nothing else. -/
def Obligations.StepRunsTheDecodedInstruction : Prop :=
  ∀ (s : State) (i : Instr), s.status = .running → s.position + s.kind.wordBytes ≤ s.buf.len →
    decode s.cfg s.kind .header
      ((List.range (min longestEncoding (s.buf.len - s.position))).map fun j => s.buf.get (s.position + j)) = .ok i →
    step s = exec i s

/-- The two ends of a running session that need no packet: `End` at the buffer's end, and `Truncated` at a partial header
word (R181, R178, marked [decision]). -/
def Obligations.SequenceEndsAtTheBuffersEnd : Prop :=
  ∀ s : State, s.status = .running →
    (s.position = s.buf.len →
      step s = .next { s with status := .ended, results := s.results ++ [.endOfSequence] }) ∧
    (s.position < s.buf.len → s.buf.len < s.position + s.kind.wordBytes →
      step s = .next (s.errored .truncated s.position))

/-- R95: in Unsynced mode any word but the framing words fails with `UnexpectedWord` at its offset; nothing is skipped and no
payload is looked at. -/
def Obligations.OtherWordBeforeSyncIsUnexpected : Prop :=
  ∀ s : State, s.status = .running → s.synced = false → s.position + s.kind.wordBytes ≤ s.buf.len →
    let hdr := s.buf.read s.position s.kind.wordBytes
    (s.kind.wordBytes = 4 → hdr ≠ 0xFFFFFFFF → hdr ≠ 0xAA995566 → ¬ (hdr = 0x000000BB ∧ s.widthDetect = true) →
      step s = .next (s.errored .unexpectedWord s.position)) ∧
    (s.kind.wordBytes = 2 → hdr ≠ 0xFFFF → hdr ≠ 0xAA99 →
      step s = .next (s.errored .unexpectedWord s.position))

/-- In Synced mode a header word of no class is `UnexpectedWord`: the zero word outside `BUGFDRI_KINDS`, the Sync Word and the
all-ones word again, every other type and every `op` that is not a write (R67, R68, marked [decision] and [derived]). -/
def Obligations.OtherWordOnceSyncedIsUnexpected : Prop :=
  ∀ s : State, s.status = .running → s.synced = true → s.position + s.kind.wordBytes ≤ s.buf.len →
    let hdr := s.buf.read s.position s.kind.wordBytes
    (s.kind.wordBytes = 4 → ¬ (hdr = 0 ∧ s.bugFdri = true) → hdr ≠ 0x20000000 →
      hdr >>> 27 ≠ 0b00110 → hdr >>> 27 ≠ 0b01010 → step s = .next (s.errored .unexpectedWord s.position)) ∧
    (s.kind.wordBytes = 2 → hdr ≠ 0x2000 → hdr >>> 11 ≠ 0b00110 → hdr >>> 11 ≠ 0b01010 →
      step s = .next (s.errored .unexpectedWord s.position))

/-- Once the session has ended or failed a step changes nothing and `Next` returns `End` (R182, marked [decision]). -/
def Obligations.NothingHappensAfterTheEnd : Prop :=
  ∀ s : State, s.status ≠ .running → step s = .next s ∧ peek s = (some .endOfSequence, s)

/-- A step of a running session adds exactly one result; `Peek` shows that result and leaves the session as it is (R184,
marked [decision]). -/
def Obligations.PeekShowsTheNextResult : Prop :=
  ∀ s t : State, s.status = .running → step s = .next t →
    ∃ r, t.results = s.results ++ [r] ∧ peek s = (some r, s)

/-! ## Framing and Nop -/

/-- R91: DummyWord yields its packet and moves the cursor by one word, in either width; once synced it is illegal. -/
def Obligations.DummyWordMovesOnlyTheCursor : Prop :=
  (∀ s : State, s.synced = false →
    exec .dummy32 s = .next (s.framed 4 false .dummyWord) ∧ exec .dummy16 s = .next (s.framed 2 false .dummyWord)) ∧
  (∀ s : State, s.synced = true →
    exec .dummy32 s = .next (s.errored .unexpectedWord s.position) ∧
    exec .dummy16 s = .next (s.errored .unexpectedWord s.position))

/-- R93: the 32-bit Sync Word moves the cursor by 4, sets `synced` and leaves register and accumulator; a second one is
illegal. -/
def Obligations.SyncWord32EntersSyncedMode : Prop :=
  (∀ s : State, s.synced = false → exec .sync32 s = .next (s.framed 4 true .syncWord)) ∧
  (∀ s : State, s.synced = true → exec .sync32 s = .next (s.errored .unexpectedWord s.position))

/-- The 16-bit Sync Word, with and without its verification word (R94, marked [decision]). -/
def Obligations.SyncWord16EntersSyncedMode : Prop :=
  ∀ s : State, s.synced = false →
    (s.sync16Verify = false → exec .sync16 s = .next (s.framed 2 true .syncWord)) ∧
    (s.sync16Verify = true → s.buf.len < s.position + 4 → exec .sync16 s = .next (s.errored .truncated s.position)) ∧
    (s.sync16Verify = true → s.position + 4 ≤ s.buf.len → s.buf.read (s.position + 2) 2 = 0x5566 →
      exec .sync16 s = .next (s.framed 4 true .syncWord)) ∧
    (s.sync16Verify = true → s.position + 4 ≤ s.buf.len → s.buf.read (s.position + 2) 2 ≠ 0x5566 →
      exec .sync16 s = .next (s.errored .unexpectedWord (s.position + 2)))

/-- The WidthDetect marker and its confirmation word; outside `WIDTH_DETECT_KINDS` the marker is illegal (R92, marked
[decision]). -/
def Obligations.WidthDetectNeedsItsConfirmation : Prop :=
  ∀ s : State, s.synced = false →
    (s.widthDetect = false → exec .widthDetect s = .next (s.errored .unexpectedWord s.position)) ∧
    (s.widthDetect = true → s.buf.len < s.position + 8 →
      exec .widthDetect s = .next (s.errored .truncated s.position)) ∧
    (s.widthDetect = true → s.position + 8 ≤ s.buf.len → s.buf.read (s.position + 4) 4 = 0x11220044 →
      exec .widthDetect s = .next (s.framed 8 false .widthDetect)) ∧
    (s.widthDetect = true → s.position + 8 ≤ s.buf.len → s.buf.read (s.position + 4) 4 ≠ 0x11220044 →
      exec .widthDetect s = .next (s.errored .unexpectedWord (s.position + 4)))

/-- Nop moves only the cursor, in either width; before sync it is illegal (R96, marked [decision]). -/
def Obligations.NopMovesOnlyTheCursor : Prop :=
  (∀ s : State, s.synced = true →
    exec .nop32 s = .next (s.framed 4 true .nop) ∧ exec .nop16 s = .next (s.framed 2 true .nop)) ∧
  (∀ s : State, s.synced = false →
    exec .nop32 s = .next (s.errored .unexpectedWord s.position) ∧
    exec .nop16 s = .next (s.errored .unexpectedWord s.position))

/-! ## Type-1 writes -/

/-- What a Type-1 write does, at every register id and word count of either width, in every configuration: the procedure of R97
and R98. The value of a fixed write is R99's [decision], a 64-bit one log entry 19; the Crc and Mfwr packets are those of
R103 and R105 [decision]; the order of errors is R100's [decision]; a Cmd write of no word or of several, and the free
value of a Crc entry of variable length, are the model's (log entries 12, 30 and 27). -/
def Obligations.Type1WriteFollowsItsProcedure : Prop :=
  (∀ (reg : BitVec 14) (ignored : BitVec 2) (wc : BitVec 11),
    Type1Procedure 4 (.t1write32 reg ignored wc) reg.toNat wc.toNat) ∧
  (∀ (reg : BitVec 6) (wc : BitVec 5), Type1Procedure 2 (.t1write16 reg wc) reg.toNat wc.toNat)

/-- The row the decoder picks for a Type-1 header runs exactly as the generic write does: the `WRITE_` and `CMD_` rows add
nothing and lose nothing (R73, R97; the choice of rows is the model's, log entry 15). -/
def Obligations.RowsRunAsTheGenericWrite : Prop :=
  (∀ (s : State) (reg : BitVec 14) (ignored : BitVec 2) (wc : BitVec 11), s.kind.wordBytes = 4 →
    exec (type1Row32 s.cfg s.kind reg ignored wc (peekWord s.buf (s.position + 4) 4)) s =
      exec (.t1write32 reg ignored wc) s) ∧
  (∀ (s : State) (reg : BitVec 6) (wc : BitVec 5), s.kind.wordBytes = 2 →
    exec (type1Row16 s.cfg s.kind reg wc (peekWord s.buf (s.position + 2) 2)) s = exec (.t1write16 reg wc) s)

/-- The one-word value writes of VirtexOriginal: value, accumulator, `last_register` and cursor, and nothing else; another count
or cut data is an error (R97 with the tag's own rule among R108 to R144, marked [derived] and [decision]). -/
def Obligations.VirtexOriginalValueWrites : Prop :=
  WideValueRow .virtexOriginal Instr.writeFarVirtexOriginal 1 .far ∧
  WideValueRow .virtexOriginal Instr.writeCtl0VirtexOriginal 5 .ctl0 ∧
  WideValueRow .virtexOriginal Instr.writeMaskVirtexOriginal 6 .mask ∧
  WideValueRow .virtexOriginal Instr.writeLoutVirtexOriginal 8 .lout ∧
  WideValueRow .virtexOriginal Instr.writeCor0VirtexOriginal 9 .cor0 ∧
  WideValueRow .virtexOriginal Instr.writeFlrVirtexOriginal 11 .flr

/-- The one-word value writes of VirtexII: value, accumulator, `last_register` and cursor, and nothing else; another count
or cut data is an error (R97 with the tag's own rule among R108 to R144, marked [derived] and [decision]). -/
def Obligations.VirtexIIValueWrites : Prop :=
  WideValueRow .virtexII Instr.writeFarVirtexII 1 .far ∧
  WideValueRow .virtexII Instr.writeCtl0VirtexII 5 .ctl0 ∧
  WideValueRow .virtexII Instr.writeMaskVirtexII 6 .mask ∧
  WideValueRow .virtexII Instr.writeLoutVirtexII 8 .lout ∧
  WideValueRow .virtexII Instr.writeCor0VirtexII 9 .cor0 ∧
  WideValueRow .virtexII Instr.writeFlrVirtexII 11 .flr ∧
  WideValueRow .virtexII Instr.writeKeyVirtexII 12 .key ∧
  WideValueRow .virtexII Instr.writeIdcodeVirtexII 14 .idcode

/-- The one-word value writes of VirtexIVPlus: value, accumulator, `last_register` and cursor, and nothing else; another count
or cut data is an error (R97 with the tag's own rule among R108 to R144, marked [derived] and [decision]). -/
def Obligations.VirtexIVPlusValueWrites : Prop :=
  WideValueRow .virtexIVPlus Instr.writeFarVirtexIVPlus 1 .far ∧
  WideValueRow .virtexIVPlus Instr.writeCtl0VirtexIVPlus 5 .ctl0 ∧
  WideValueRow .virtexIVPlus Instr.writeMaskVirtexIVPlus 6 .mask ∧
  WideValueRow .virtexIVPlus Instr.writeLoutVirtexIVPlus 8 .lout ∧
  WideValueRow .virtexIVPlus Instr.writeCor0VirtexIVPlus 9 .cor0 ∧
  WideValueRow .virtexIVPlus Instr.writeIdcodeVirtexIVPlus 12 .idcode ∧
  WideValueRow .virtexIVPlus Instr.writeAxssVirtexIVPlus 13 .axss ∧
  WideValueRow .virtexIVPlus Instr.writeCor1VirtexIVPlus 14 .cor1 ∧
  WideValueRow .virtexIVPlus Instr.writeCsobVirtexIVPlus 15 .csob ∧
  WideValueRow .virtexIVPlus Instr.writeWbstarVirtexIVPlus 16 .wbstar ∧
  WideValueRow .virtexIVPlus Instr.writeTimerVirtexIVPlus 17 .timer ∧
  WideValueRow .virtexIVPlus Instr.writeRbcrcSwVirtexIVPlus 19 .rbcrcSw ∧
  WideValueRow .virtexIVPlus Instr.writeCtl1VirtexIVPlus 24 .ctl1 ∧
  WideValueRow .virtexIVPlus Instr.writeBspiVirtexIVPlus 31 .bspi

/-- The one-word value writes of Spartan3A: value, accumulator, `last_register` and cursor, and nothing else; another count
or cut data is an error (R97 with the tag's own rule among R108 to R144, marked [derived] and [decision]). -/
def Obligations.Spartan3AValueWrites : Prop :=
  NarrowValueRow .spartan3A Instr.writeFarMajSpartan3A 1 .farMaj ∧
  NarrowValueRow .spartan3A Instr.writeFarMinSpartan3A 2 .farMin ∧
  NarrowValueRow .spartan3A Instr.writeCtl0Spartan3A 6 .ctl0 ∧
  NarrowValueRow .spartan3A Instr.writeMaskSpartan3A 7 .mask ∧
  NarrowValueRow .spartan3A Instr.writeLoutSpartan3A 9 .lout ∧
  NarrowValueRow .spartan3A Instr.writeCor1Spartan3A 10 .cor1 ∧
  NarrowValueRow .spartan3A Instr.writeCor2Spartan3A 11 .cor2 ∧
  NarrowValueRow .spartan3A Instr.writePwrdnSpartan3A 12 .pwrdn ∧
  NarrowValueRow .spartan3A Instr.writeFlrSpartan3A 13 .flr ∧
  NarrowValueRow .spartan3A Instr.writeSnowplowSpartan3A 15 .snowplow ∧
  NarrowValueRow .spartan3A Instr.writeHcOptSpartan3A 16 .hcOpt ∧
  NarrowValueRow .spartan3A Instr.writeCsboSpartan3A 18 .csbo ∧
  NarrowValueRow .spartan3A Instr.writeGeneral1Spartan3A 19 .general1 ∧
  NarrowValueRow .spartan3A Instr.writeGeneral2Spartan3A 20 .general2 ∧
  NarrowValueRow .spartan3A Instr.writeModeSpartan3A 21 .mode ∧
  NarrowValueRow .spartan3A Instr.writePuGweSpartan3A 22 .puGwe ∧
  NarrowValueRow .spartan3A Instr.writePuGtsSpartan3A 23 .puGts ∧
  NarrowValueRow .spartan3A Instr.writeCclkFreqSpartan3A 25 .cclkFreq ∧
  NarrowValueRow .spartan3A Instr.writeSeuOptSpartan3A 26 .seuOpt ∧
  NarrowValueRow .spartan3A Instr.writeExpSignSpartan3A 27 .expSign ∧
  NarrowValueRow .spartan3A Instr.writeRdbkSignSpartan3A 28 .rdbkSign

/-- The one-word value writes of Spartan6: value, accumulator, `last_register` and cursor, and nothing else; another count
or cut data is an error (R97 with the tag's own rule among R108 to R144, marked [derived] and [decision]). -/
def Obligations.Spartan6ValueWrites : Prop :=
  NarrowValueRow .spartan6 Instr.writeFarMajSpartan6 1 .farMaj ∧
  NarrowValueRow .spartan6 Instr.writeFarMinSpartan6 2 .farMin ∧
  NarrowValueRow .spartan6 Instr.writeCtl0Spartan6 6 .ctl0 ∧
  NarrowValueRow .spartan6 Instr.writeMaskSpartan6 7 .mask ∧
  NarrowValueRow .spartan6 Instr.writeLoutSpartan6 9 .lout ∧
  NarrowValueRow .spartan6 Instr.writeCor1Spartan6 10 .cor1 ∧
  NarrowValueRow .spartan6 Instr.writeCor2Spartan6 11 .cor2 ∧
  NarrowValueRow .spartan6 Instr.writePwrdnSpartan6 12 .pwrdn ∧
  NarrowValueRow .spartan6 Instr.writeFlrSpartan6 13 .flr ∧
  NarrowValueRow .spartan6 Instr.writeCwdtSpartan6 15 .cwdt ∧
  NarrowValueRow .spartan6 Instr.writeHcOptSpartan6 16 .hcOpt ∧
  NarrowValueRow .spartan6 Instr.writeCsboSpartan6 18 .csbo ∧
  NarrowValueRow .spartan6 Instr.writeGeneral1Spartan6 19 .general1 ∧
  NarrowValueRow .spartan6 Instr.writeGeneral2Spartan6 20 .general2 ∧
  NarrowValueRow .spartan6 Instr.writeGeneral3Spartan6 21 .general3 ∧
  NarrowValueRow .spartan6 Instr.writeGeneral4Spartan6 22 .general4 ∧
  NarrowValueRow .spartan6 Instr.writeGeneral5Spartan6 23 .general5 ∧
  NarrowValueRow .spartan6 Instr.writeModeSpartan6 24 .mode ∧
  NarrowValueRow .spartan6 Instr.writePuGweSpartan6 25 .puGwe ∧
  NarrowValueRow .spartan6 Instr.writePuGtsSpartan6 26 .puGts ∧
  NarrowValueRow .spartan6 Instr.writeCclkFreqSpartan6 28 .cclkFreq ∧
  NarrowValueRow .spartan6 Instr.writeSeuOptSpartan6 29 .seuOpt ∧
  NarrowValueRow .spartan6 Instr.writeExpSignSpartan6 30 .expSign ∧
  NarrowValueRow .spartan6 Instr.writeRdbkSignSpartan6 31 .rdbkSign ∧
  NarrowValueRow .spartan6 Instr.writeEyeMaskSpartan6 33 .eyeMask

/-- The two-word value writes of the 16-bit kinds: the first word is the high half (R99, marked [decision]). -/
def Obligations.IdcodePairWrites : Prop :=
  NarrowPairRow .spartan3A Instr.writeIdcodeSpartan3A 14 .idcode ∧
  NarrowPairRow .spartan6 Instr.writeIdcodeSpartan6 14 .idcode

/-- A Crc write yields its packet and one event that compares the value read with the accumulator before it; the accumulator
stays (R103, R86, R87, marked [decision]). -/
def Obligations.CrcWritesCompareTheAccumulator : Prop :=
  (∀ (ignored : BitVec 2) (wc : BitVec 11),
    CrcRow .virtexOriginal (Instr.writeCrcVirtexOriginal ignored wc) 1 wc.toNat ∧
    CrcRow .virtexII (Instr.writeCrcVirtexII ignored wc) 1 wc.toNat ∧
    CrcRow .virtexIVPlus (Instr.writeCrcVirtexIVPlus ignored wc) 1 wc.toNat) ∧
  (∀ wc : BitVec 5,
    CrcRow .spartan3A (Instr.writeCrcSpartan3A wc) 2 wc.toNat ∧
    CrcRow .spartan6 (Instr.writeCrcSpartan6 wc) 2 wc.toNat)

/-- The variable-length writes but Mfwr yield the window of their data and feed its words, at any word count, 0 included
(R104, R106, R101, marked [derived] and [decision]). -/
def Obligations.WindowWritesExposeTheirData : Prop :=
  (∀ (ignored : BitVec 2) (wc : BitVec 11),
    WindowRow .virtexOriginal (Instr.writeFdriVirtexOriginal ignored wc) 2 wc.toNat .fdri ∧
    WindowRow .virtexII (Instr.writeFdriVirtexII ignored wc) 2 wc.toNat .fdri ∧
    WindowRow .virtexII (Instr.writeCbcVirtexII ignored wc) 13 wc.toNat (.window .cbc) ∧
    WindowRow .virtexIVPlus (Instr.writeFdriVirtexIVPlus ignored wc) 2 wc.toNat .fdri ∧
    WindowRow .virtexIVPlus (Instr.writeCbcVirtexIVPlus ignored wc) 11 wc.toNat (.window .cbc)) ∧
  (∀ wc : BitVec 5,
    WindowRow .spartan3A (Instr.writeFdriSpartan3A wc) 3 wc.toNat .fdri ∧
    WindowRow .spartan6 (Instr.writeFdriSpartan6 wc) 3 wc.toNat .fdri ∧
    WindowRow .spartan6 (Instr.writeCbcRegSpartan6 wc) 34 wc.toNat (.window .cbcReg))

/-- An Mfwr write yields its word count when every data byte is zero, and is `MalformedPadding` otherwise (R105, marked
[decision]). -/
def Obligations.MfwrWritesAreZeroPadding : Prop :=
  (∀ (ignored : BitVec 2) (wc : BitVec 11),
    PaddingRow .virtexII (Instr.writeMfwrVirtexII ignored wc) 10 wc.toNat ∧
    PaddingRow .virtexIVPlus (Instr.writeMfwrVirtexIVPlus ignored wc) 10 wc.toNat) ∧
  (∀ wc : BitVec 5,
    PaddingRow .spartan3A (Instr.writeMfwrSpartan3A wc) 24 wc.toNat ∧
    PaddingRow .spartan6 (Instr.writeMfwrSpartan6 wc) 27 wc.toNat)

/-- A write to the command register, of one word, is the command its word is in the session's table; the word is fed, and `CmdRcrc`
then zeroes the accumulator; an unknown word is `UnknownCommand` (R107). That cut data win over a wrong count is R97 with
R100 [decision D28], the look-up of the whole word R145 [decision D16], the exemption from the checksum R34 and R82
[decision D17]. -/
def Obligations.CmdRegisterWritesDecodeTheirCommand : Prop :=
  (∀ (ignored : BitVec 2) (wc : BitVec 11),
    CommandRegisterRow .virtexOriginal (Instr.writeCmdVirtexOriginal ignored wc) 4 wc.toNat ∧
    CommandRegisterRow .virtexII (Instr.writeCmdVirtexII ignored wc) 4 wc.toNat ∧
    CommandRegisterRow .virtexIVPlus (Instr.writeCmdVirtexIVPlus ignored wc) 4 wc.toNat) ∧
  (∀ wc : BitVec 5,
    CommandRegisterRow .spartan3A (Instr.writeCmdSpartan3A wc) 5 wc.toNat ∧
    CommandRegisterRow .spartan6 (Instr.writeCmdSpartan6 wc) 5 wc.toNat)

/-- The command rows of VirtexOriginal report their command, feed its code and perform nothing; only `CmdRcrc` leaves the accumulator
at 0 (R147 to R166, R84, marked [derived] and [decision]). -/
def Obligations.VirtexOriginalCommands : Prop :=
  ∀ ignored : BitVec 2,
    CommandRow .virtexOriginal (Instr.cmdNullVirtexOriginal ignored) 4 0 .null ∧
    CommandRow .virtexOriginal (Instr.cmdWcfgVirtexOriginal ignored) 4 1 .wcfg ∧
    CommandRow .virtexOriginal (Instr.cmdLfrmVirtexOriginal ignored) 4 3 .lfrm ∧
    CommandRow .virtexOriginal (Instr.cmdRcfgVirtexOriginal ignored) 4 4 .rcfg ∧
    CommandRow .virtexOriginal (Instr.cmdStartVirtexOriginal ignored) 4 5 .start ∧
    CommandRow .virtexOriginal (Instr.cmdRcapVirtexOriginal ignored) 4 6 .rcap ∧
    CommandRow .virtexOriginal (Instr.cmdRcrcVirtexOriginal ignored) 4 7 .rcrc ∧
    CommandRow .virtexOriginal (Instr.cmdAghighVirtexOriginal ignored) 4 8 .aghigh ∧
    CommandRow .virtexOriginal (Instr.cmdSwitchVirtexOriginal ignored) 4 9 .switch

/-- The command rows of VirtexII report their command, feed its code and perform nothing; only `CmdRcrc` leaves the accumulator
at 0 (R147 to R166, R84, marked [derived] and [decision]). -/
def Obligations.VirtexIICommands : Prop :=
  ∀ ignored : BitVec 2,
    CommandRow .virtexII (Instr.cmdNullVirtexII ignored) 4 0 .null ∧
    CommandRow .virtexII (Instr.cmdWcfgVirtexII ignored) 4 1 .wcfg ∧
    CommandRow .virtexII (Instr.cmdMfwrVirtexII ignored) 4 2 .mfwr ∧
    CommandRow .virtexII (Instr.cmdLfrmVirtexII ignored) 4 3 .lfrm ∧
    CommandRow .virtexII (Instr.cmdRcfgVirtexII ignored) 4 4 .rcfg ∧
    CommandRow .virtexII (Instr.cmdStartVirtexII ignored) 4 5 .start ∧
    CommandRow .virtexII (Instr.cmdRcapVirtexII ignored) 4 6 .rcap ∧
    CommandRow .virtexII (Instr.cmdRcrcVirtexII ignored) 4 7 .rcrc ∧
    CommandRow .virtexII (Instr.cmdAghighVirtexII ignored) 4 8 .aghigh ∧
    CommandRow .virtexII (Instr.cmdSwitchVirtexII ignored) 4 9 .switch ∧
    CommandRow .virtexII (Instr.cmdGrestoreVirtexII ignored) 4 10 .grestore ∧
    CommandRow .virtexII (Instr.cmdShutdownVirtexII ignored) 4 11 .shutdown ∧
    CommandRow .virtexII (Instr.cmdGcaptureVirtexII ignored) 4 12 .gcapture ∧
    CommandRow .virtexII (Instr.cmdDesynchVirtexII ignored) 4 13 .desynch

/-- The command rows of VirtexIVPlus report their command, feed its code and perform nothing; only `CmdRcrc` leaves the accumulator
at 0 (R147 to R166, R84, marked [derived] and [decision]). -/
def Obligations.VirtexIVPlusCommands : Prop :=
  ∀ ignored : BitVec 2,
    CommandRow .virtexIVPlus (Instr.cmdNullVirtexIVPlus ignored) 4 0 .null ∧
    CommandRow .virtexIVPlus (Instr.cmdWcfgVirtexIVPlus ignored) 4 1 .wcfg ∧
    CommandRow .virtexIVPlus (Instr.cmdMfwrVirtexIVPlus ignored) 4 2 .mfwr ∧
    CommandRow .virtexIVPlus (Instr.cmdLfrmVirtexIVPlus ignored) 4 3 .lfrm ∧
    CommandRow .virtexIVPlus (Instr.cmdRcfgVirtexIVPlus ignored) 4 4 .rcfg ∧
    CommandRow .virtexIVPlus (Instr.cmdStartVirtexIVPlus ignored) 4 5 .start ∧
    CommandRow .virtexIVPlus (Instr.cmdRcapVirtexIVPlus ignored) 4 6 .rcap ∧
    CommandRow .virtexIVPlus (Instr.cmdRcrcVirtexIVPlus ignored) 4 7 .rcrc ∧
    CommandRow .virtexIVPlus (Instr.cmdAghighVirtexIVPlus ignored) 4 8 .aghigh ∧
    CommandRow .virtexIVPlus (Instr.cmdSwitchVirtexIVPlus ignored) 4 9 .switch ∧
    CommandRow .virtexIVPlus (Instr.cmdGrestoreVirtexIVPlus ignored) 4 10 .grestore ∧
    CommandRow .virtexIVPlus (Instr.cmdShutdownVirtexIVPlus ignored) 4 11 .shutdown ∧
    CommandRow .virtexIVPlus (Instr.cmdGcaptureVirtexIVPlus ignored) 4 12 .gcapture ∧
    CommandRow .virtexIVPlus (Instr.cmdDesynchVirtexIVPlus ignored) 4 13 .desynch ∧
    CommandRow .virtexIVPlus (Instr.cmdIprogVirtexIVPlus ignored) 4 15 .iprog ∧
    CommandRow .virtexIVPlus (Instr.cmdCrccVirtexIVPlus ignored) 4 16 .crcc ∧
    CommandRow .virtexIVPlus (Instr.cmdLtimerVirtexIVPlus ignored) 4 17 .ltimer ∧
    CommandRow .virtexIVPlus (Instr.cmdBspiReadVirtexIVPlus ignored) 4 18 .bspiRead ∧
    CommandRow .virtexIVPlus (Instr.cmdFallEdgeVirtexIVPlus ignored) 4 19 .fallEdge

/-- The command rows of Spartan3A report their command, feed its code and perform nothing; only `CmdRcrc` leaves the accumulator
at 0 (R147 to R166, R84, marked [derived] and [decision]). -/
def Obligations.Spartan3ACommands : Prop :=
  CommandRow .spartan3A Instr.cmdNullSpartan3A 5 0 .null ∧
  CommandRow .spartan3A Instr.cmdWcfgSpartan3A 5 1 .wcfg ∧
  CommandRow .spartan3A Instr.cmdMfwrSpartan3A 5 2 .mfwr ∧
  CommandRow .spartan3A Instr.cmdLfrmSpartan3A 5 3 .lfrm ∧
  CommandRow .spartan3A Instr.cmdRcfgSpartan3A 5 4 .rcfg ∧
  CommandRow .spartan3A Instr.cmdStartSpartan3A 5 5 .start ∧
  CommandRow .spartan3A Instr.cmdRcrcSpartan3A 5 7 .rcrc ∧
  CommandRow .spartan3A Instr.cmdAghighSpartan3A 5 8 .aghigh ∧
  CommandRow .spartan3A Instr.cmdGrestoreSpartan3A 5 10 .grestore ∧
  CommandRow .spartan3A Instr.cmdShutdownSpartan3A 5 11 .shutdown ∧
  CommandRow .spartan3A Instr.cmdDesynchSpartan3A 5 13 .desynch ∧
  CommandRow .spartan3A Instr.cmdIprogSpartan3A 5 14 .iprog

/-- The command rows of Spartan6 report their command, feed its code and perform nothing; only `CmdRcrc` leaves the accumulator
at 0 (R147 to R166, R84, marked [derived] and [decision]). -/
def Obligations.Spartan6Commands : Prop :=
  CommandRow .spartan6 Instr.cmdNullSpartan6 5 0 .null ∧
  CommandRow .spartan6 Instr.cmdWcfgSpartan6 5 1 .wcfg ∧
  CommandRow .spartan6 Instr.cmdMfwrSpartan6 5 2 .mfwr ∧
  CommandRow .spartan6 Instr.cmdLfrmSpartan6 5 3 .lfrm ∧
  CommandRow .spartan6 Instr.cmdRcfgSpartan6 5 4 .rcfg ∧
  CommandRow .spartan6 Instr.cmdStartSpartan6 5 5 .start ∧
  CommandRow .spartan6 Instr.cmdRcrcSpartan6 5 7 .rcrc ∧
  CommandRow .spartan6 Instr.cmdAghighSpartan6 5 8 .aghigh ∧
  CommandRow .spartan6 Instr.cmdGrestoreSpartan6 5 10 .grestore ∧
  CommandRow .spartan6 Instr.cmdShutdownSpartan6 5 11 .shutdown ∧
  CommandRow .spartan6 Instr.cmdDesynchSpartan6 5 13 .desynch ∧
  CommandRow .spartan6 Instr.cmdIprogSpartan6 5 14 .iprog

/-! ## Long writes -/

/-- T2WRITE to a variable-length register, where no auto-checksum follows: packet, feed and cursor; `last_register` stays
(R170, R167, R168, marked [decision]). -/
def Obligations.Type2WriteUsesTheLastRegister : Prop :=
  ∀ (wc : BitVec 27) (s : State) (reg : RegId) (e : RegEntry) (pkt : Packet),
    let n := wc.toNat
    s.synced = true → s.lastRegister = some reg → s.lookupReg reg = some e → e.card = .var →
    ¬ (s.autoCrc = true ∧ e.tag = .fdri) → s.position + 4 + n * 4 ≤ s.buf.len →
    LongPacket s.buf e.tag (s.position + 4) 4 n pkt →
    exec (.t2write wc) s =
      .next (s.wroteLong (4 + n * 4) (s.fedLong e reg (wordsAt s.buf (s.position + 4) 4 n)) pkt [])

/-- LWRITE to a variable-length register, under either source of the register id, where no auto-checksum follows: the length is
the 32-bit value after the header and is not fed; `last_register` stays (R172, R167, R168, marked [decision]). -/
def Obligations.LongWrite16TakesItsLengthWord : Prop :=
  ∀ (low : BitVec 11) (s : State) (reg : RegId) (e : RegEntry) (pkt : Packet),
    let n := (s.buf.read (s.position + 2) 4).toNat
    s.synced = true → LongTarget16 s low reg → s.lookupReg reg = some e → e.card = .var →
    ¬ (s.autoCrc = true ∧ e.tag = .fdri) → s.position + 6 + n * 2 ≤ s.buf.len →
    LongPacket s.buf e.tag (s.position + 6) 2 n pkt →
    exec (.lwrite low) s =
      .next (s.wroteLong (6 + n * 2) (s.fedLong e reg (wordsAt s.buf (s.position + 6) 2 n)) pkt [])

/-- Where an auto-checksum word trails a long write to Fdri, a match sets the accumulator to 0 and a mismatch leaves it as the data
words made it, in both widths (R85). That only a match resets is the resolution of conflict C6 (log entry 23); packet,
event, the 4-byte word and the cursor are those of R167, R170, R172 and R173 [decision]. -/
def Obligations.AutoChecksumResetsOnlyOnAMatch : Prop :=
  (∀ (wc : BitVec 27) (s : State) (reg : RegId) (e : RegEntry),
    let n := wc.toNat
    let sum := s.fedLong e reg (wordsAt s.buf (s.position + 4) 4 n)
    s.synced = true → s.lastRegister = some reg → s.lookupReg reg = some e → e.card = .var → e.tag = .fdri →
    s.autoCrc = true → s.position + 4 + n * 4 + 4 ≤ s.buf.len →
    exec (.t2write wc) s = .next (s.wroteChecked (4 + n * 4) sum (.fdri ⟨s.position + 4, n * 4⟩))) ∧
  (∀ (low : BitVec 11) (s : State) (reg : RegId) (e : RegEntry),
    let n := (s.buf.read (s.position + 2) 4).toNat
    let sum := s.fedLong e reg (wordsAt s.buf (s.position + 6) 2 n)
    s.synced = true → LongTarget16 s low reg → s.lookupReg reg = some e → e.card = .var → e.tag = .fdri →
    s.autoCrc = true → s.position + 6 + n * 2 + 4 ≤ s.buf.len →
    exec (.lwrite low) s = .next (s.wroteChecked (6 + n * 2) sum (.fdri ⟨s.position + 6, n * 2⟩)))

/-- A Crc packet or an auto-checksum word that does not verify is reported as an event with `matched` false; it changes no status
and no accumulator, and the packet is committed as any other (R195). Packet, event and cursor are those of R86, R87, R103,
R167, R170, R172 and R173 [decision], the unchanged accumulator also conflict C6 (log entry 23). -/
def Obligations.ChecksumMismatchIsNoError : Prop :=
  (∀ (reg : BitVec 14) (ignored : BitVec 2) (s : State) (e : RegEntry), s.synced = true →
    let p := s.position + 4
    let v := s.buf.read p 4
    s.lookupReg reg.toNat = some e → e.tag = .crc → e.card = .one → p + 4 ≤ s.buf.len → v ≠ s.checksum →
    exec (.t1write32 reg ignored 1) s =
      .next (s.wrote reg.toNat 8 s.checksum (.crc (.bits32 v)) [⟨p, .bits32 v, s.checksum, false⟩])) ∧
  (∀ (reg : BitVec 6) (s : State) (e : RegEntry), s.synced = true →
    let p := s.position + 2
    let v := s.buf.read p 4
    s.lookupReg reg.toNat = some e → e.tag = .crc → e.card = .two → p + 4 ≤ s.buf.len → v ≠ s.checksum →
    exec (.t1write16 reg 2) s =
      .next (s.wrote reg.toNat 6 s.checksum (.crc (.bits32 v)) [⟨p, .bits32 v, s.checksum, false⟩])) ∧
  (∀ (wc : BitVec 27) (s : State) (reg : RegId) (e : RegEntry),
    let n := wc.toNat
    let q := s.position + (4 + n * 4)
    let sum := s.fedLong e reg (wordsAt s.buf (s.position + 4) 4 n)
    s.synced = true → s.lastRegister = some reg → s.lookupReg reg = some e → e.card = .var → e.tag = .fdri →
    s.autoCrc = true → q + 4 ≤ s.buf.len → s.buf.read q 4 ≠ sum →
    exec (.t2write wc) s =
      .next (s.wroteLong (4 + n * 4 + 4) sum (.fdri ⟨s.position + 4, n * 4⟩) [⟨q, .bits32 (s.buf.read q 4), sum, false⟩])) ∧
  (∀ (low : BitVec 11) (s : State) (reg : RegId) (e : RegEntry),
    let n := (s.buf.read (s.position + 2) 4).toNat
    let q := s.position + (6 + n * 2)
    let sum := s.fedLong e reg (wordsAt s.buf (s.position + 6) 2 n)
    s.synced = true → LongTarget16 s low reg → s.lookupReg reg = some e → e.card = .var → e.tag = .fdri →
    s.autoCrc = true → q + 4 ≤ s.buf.len → s.buf.read q 4 ≠ sum →
    exec (.lwrite low) s =
      .next (s.wroteLong (6 + n * 2 + 4) sum (.fdri ⟨s.position + 6, n * 2⟩) [⟨q, .bits32 (s.buf.read q 4), sum, false⟩]))

/-- Where a long write fails, in the order of R169 (marked [decision]): each clause holds only where the ones before it do not
apply. -/
def Obligations.LongWriteErrorsComeInOrder : Prop :=
  (∀ (wc : BitVec 27) (s : State), s.synced = true →
    let n := wc.toNat
    let q := s.position + 4 + n * 4
    (s.lastRegister = none → exec (.t2write wc) s = .next (s.errored .unexpectedWord s.position)) ∧
    ∀ reg e, s.lastRegister = some reg → s.lookupReg reg = some e →
      (s.buf.len < q → exec (.t2write wc) s = .next (s.errored .truncated s.position)) ∧
      (q ≤ s.buf.len → e.card ≠ .var → exec (.t2write wc) s = .next (s.errored .unexpectedWordCount s.position)) ∧
      (q ≤ s.buf.len → e.card = .var → e.tag = .mfwr → ¬ zeroBytes s.buf (s.position + 4) q →
        exec (.t2write wc) s = .next (s.errored .malformedPadding s.position)) ∧
      (q ≤ s.buf.len → e.card = .var → e.tag = .fdri → s.autoCrc = true → s.buf.len < q + 4 →
        exec (.t2write wc) s = .next (s.errored .truncated s.position))) ∧
  (∀ (low : BitVec 11) (s : State), s.synced = true →
    let n := (s.buf.read (s.position + 2) 4).toNat
    let q := s.position + 6 + n * 2
    (s.cfg.lw16RegSource = .lastRegister → s.lastRegister = none →
      exec (.lwrite low) s = .next (s.errored .unexpectedWord s.position)) ∧
    (s.cfg.lw16RegSource = .headerField → s.lookupReg (low.extractLsb' 5 6).toNat = none →
      exec (.lwrite low) s = .next (s.errored .unknownRegister s.position)) ∧
    ∀ reg e, LongTarget16 s low reg → s.lookupReg reg = some e →
      (s.buf.len < s.position + 6 → exec (.lwrite low) s = .next (s.errored .truncated s.position)) ∧
      (s.position + 6 ≤ s.buf.len → s.buf.len < q →
        exec (.lwrite low) s = .next (s.errored .truncated s.position)) ∧
      (q ≤ s.buf.len → e.card ≠ .var → exec (.lwrite low) s = .next (s.errored .unexpectedWordCount s.position)) ∧
      (q ≤ s.buf.len → e.card = .var → e.tag = .mfwr → ¬ zeroBytes s.buf (s.position + 6) q →
        exec (.lwrite low) s = .next (s.errored .malformedPadding s.position)) ∧
      (q ≤ s.buf.len → e.card = .var → e.tag = .fdri → s.autoCrc = true → s.buf.len < q + 4 →
        exec (.lwrite low) s = .next (s.errored .truncated s.position)))

/-- BUGFDRI takes the whole run of zero words that starts at its header as one Fdri-equivalent write of zeros; `last_register` is
not touched; outside `BUGFDRI_KINDS` the zero word is illegal (R174, marked [decision]). Where the table has no Fdri entry, or
several of different ids, the id fed is a free value (log entry 28). -/
def Obligations.BugFdriTakesTheWholeZeroRun : Prop :=
  (∀ (s : State) (n : Nat) (e : RegEntry), s.synced = true → s.bugFdri = true → s.cfg.fdriEntry s.kind = some e →
    s.position + 4 ≤ s.buf.len → ZeroRun s n →
    exec .bugFdri s =
      .next (s.wroteLong (4 * n) (s.fed e.id (List.replicate n 0)) (.bugFdri ⟨s.position, 4 * n⟩) [])) ∧
  (∀ (s : State) (n : Nat), s.synced = true → s.bugFdri = true → s.cfg.fdriEntry s.kind = none →
    s.position + 4 ≤ s.buf.len → ZeroRun s n →
    let f := (unstatedFdriId s.kind (s.cfg.regTable.get s.kind)).toNat
    let e := (s.lookupReg f).getD ⟨f, .fdri, .var⟩
    exec .bugFdri s =
      .next (s.wroteLong (4 * n) (s.fedLong e f (List.replicate n 0)) (.bugFdri ⟨s.position, 4 * n⟩) [])) ∧
  (∀ s : State, s.synced = true → s.bugFdri = false →
    exec .bugFdri s = .next (s.errored .unexpectedWord s.position))

/-- AUTOCRC on its own: after an Fdri packet of a kind that has auto-checksums the word is compared and its event joins that
packet; anywhere else it is `UnexpectedWord` (model's choice, log entry 14: in a step the long write reads the word itself,
R173). -/
def Obligations.AutoCrcWordJoinsTheFdriPacket : Prop :=
  (∀ (v : BitVec 32) (s : State) (rs : List StepResult) (w : Window) (h : Nat) (evs : List CrcCheck),
    s.autoCrc = true → s.results = rs ++ [.packet (.fdri w) h evs] →
    (s.position + 4 ≤ s.buf.len →
      exec (.autoCrc v) s =
        .next
          { s with
            position := s.position + 4
            checksum := if v = s.checksum then 0 else s.checksum
            results := rs ++ [.packet (.fdri w) h (evs ++ [⟨s.position, .bits32 v, s.checksum, v == s.checksum⟩])] }) ∧
    (s.buf.len < s.position + 4 → exec (.autoCrc v) s = .next (s.errored .truncated h))) ∧
  (∀ (v : BitVec 32) (s : State),
    (s.autoCrc = false ∨ ∀ rs w h evs, s.results ≠ rs ++ [.packet (.fdri w) h evs]) →
    exec (.autoCrc v) s = .next (s.errored .unexpectedWord s.position))

/-- A long write to Fdri with its auto-checksum is the same write of a session without auto-checksums, followed by AUTOCRC with the
word that stands after the data (R173, R167, marked [decision]; AUTOCRC on its own is the model's, log entry 14). -/
def Obligations.AutoChecksumSplitsOffTheLongWrite : Prop :=
  (∀ (wc : BitVec 27) (s t : State) (reg : RegId) (e : RegEntry),
    s.synced = true → s.lastRegister = some reg → s.lookupReg reg = some e → e.card = .var → e.tag = .fdri →
    s.autoCrc = true → s.position + 4 + wc.toNat * 4 + 4 ≤ s.buf.len →
    exec (.t2write wc) { s with cfg := { s.cfg with autoCrcKinds := [] } } = .next t →
    exec (.t2write wc) s = exec (.autoCrc (s.buf.read t.position 4)) { t with cfg := s.cfg }) ∧
  (∀ (low : BitVec 11) (s t : State) (reg : RegId) (e : RegEntry),
    s.synced = true → LongTarget16 s low reg → s.lookupReg reg = some e → e.card = .var → e.tag = .fdri →
    s.autoCrc = true → s.position + 6 + (s.buf.read (s.position + 2) 4).toNat * 2 + 4 ≤ s.buf.len →
    exec (.lwrite low) { s with cfg := { s.cfg with autoCrcKinds := [] } } = .next t →
    exec (.lwrite low) s = exec (.autoCrc (s.buf.read t.position 4)) { t with cfg := s.cfg })

/-! ## The whole machine -/

/-- Every instruction but AUTOCRC, met in the mode it does not belong to, is `UnexpectedWord` at its header, before anything else
is looked at (R59, R68, R95, R196). -/
def Obligations.WrongModeIsUnexpectedWord : Prop :=
  ∀ (i : Instr) (s : State), i.place = .header → s.synced ≠ i.synced →
    exec i s = .next (s.errored .unexpectedWord s.position)

/-- ERRORS ARE PRECISE: whatever the instruction, an error changes the status and adds its result, and nothing else (R180, R191,
marked [decision]). -/
def Obligations.AnErrorChangesOnlyTheStatus : Prop :=
  ∀ (s t : State) (kind : ErrorKind) (offset : Nat), s.status = .running → t.status = .failed kind offset →
    (∀ i : Instr, exec i s = .next t → t = s.errored kind offset) ∧
    (step s = .next t → t = s.errored kind offset)

/-- No instruction and no step changes the kind, the configuration or any byte of the buffer (R10, R54). -/
def Obligations.LaunchArgumentsNeverChange : Prop :=
  ∀ s t : State,
    (∀ i : Instr, exec i s = .next t → t.kind = s.kind ∧ t.cfg = s.cfg ∧ t.buf = s.buf) ∧
    (step s = .next t → t.kind = s.kind ∧ t.cfg = s.cfg ∧ t.buf = s.buf ∧ ∀ a, t.buf.byte a = s.buf.byte a)

/-- Every `(kind, cfg, buf, state)` has exactly one step result, reachable or not and whatever the tables: the step and every
instruction answer a next state (R194, marked [derived]; where the tables are outside R41, log entries 12, 27 and 28). -/
def Obligations.EveryStepHasAResult : Prop :=
  (∀ s : State, ∃ t, step s = .next t) ∧ ∀ (i : Instr) (s : State), ∃ t, exec i s = .next t

/-- The cursor invariant is kept, the cursor never moves back, and a packet takes at least one word (R20, R52, R179, marked
[derived]). -/
def Obligations.StepKeepsTheCursorInvariant : Prop :=
  ∀ s t : State, s.CursorOk → step s = .next t →
    t.CursorOk ∧ s.position ≤ t.position ∧
    (s.status = .running → t.status = .running → s.position + s.kind.wordBytes ≤ t.position)

/-- The accumulator stays below its kind's bound and `last_register` keeps a table entry (R23, R77; R80 and R167, marked [derived]
and [decision]). -/
def Obligations.StepKeepsTheRegisterInvariants : Prop :=
  ∀ s t : State, step s = .next t →
    (s.ChecksumOk → t.ChecksumOk) ∧ (s.LastRegisterOk → t.LastRegisterOk)

/-- The stream of results keeps its shape: packets in rising order, then one `End` or `Error` (R177, R58, R182). -/
def Obligations.StepKeepsTheResultStream : Prop :=
  ∀ s t : State, s.StreamOk → step s = .next t → t.StreamOk

/-- The outputs stay true to the buffer: every event's value is the one read there, `matched` is its comparison, every window lies
within the bytes consumed (R87, R177, R210). -/
def Obligations.StepKeepsTheOutputsTrue : Prop :=
  ∀ s t : State, s.OutputsOk → step s = .next t → t.OutputsOk

/-- Synced mode is never left, it is entered by exactly one Sync Word, and nothing is written or fed before it (R21, R89, R198). -/
def Obligations.StepKeepsTheModeHistory : Prop :=
  ∀ s t : State, s.ModeOk → step s = .next t → t.ModeOk ∧ (s.synced = true → t.synced = true)

/-- Every invariant holds at the start of every session and at reset. -/
def Obligations.SessionStartMeetsTheInvariants : Prop :=
  (∀ (k : DeviceKind) (c : Config) (b : Memory),
    (State.start k c b).CursorOk ∧ (State.start k c b).ChecksumOk ∧ (State.start k c b).LastRegisterOk ∧
    (State.start k c b).StreamOk ∧ (State.start k c b).OutputsOk ∧ (State.start k c b).ModeOk) ∧
  State.reset.CursorOk ∧ State.reset.ChecksumOk ∧ State.reset.LastRegisterOk ∧ State.reset.StreamOk ∧
  State.reset.OutputsOk ∧ State.reset.ModeOk ∧ State.reset.buf.wf = true

/-- Every run ends: a running session with `n` bytes left has ended or failed after at most `n / WB + 1` steps (R183, marked
[derived]). -/
def Obligations.EveryRunEndsInTime : Prop :=
  ∀ s : State, s.position ≤ s.buf.len →
    ∃ t : State,
      Host.Core.run Sys2Proof.core ((s.buf.len - s.position) / s.kind.wordBytes + 1) s = .next t ∧
      t.status ≠ .running

/-- The results are output only: a step does not depend on those already there, and only adds to them (R43, R185). -/
def Obligations.ResultsAreOnlyOutput : Prop :=
  ∀ s t : State, step s = .next t →
    ∃ out : List StepResult, t.results = s.results ++ out ∧
      ∀ rs : List StepResult, step { s with results := rs } = .next { t with results := rs ++ out }
end

