-- ==== Sys2Proof/Laws/Checksum.lean ====
section
/-!
SUPPORT. The Checksum Engine: feeding lists of words, and what a write's words do to the accumulator.
-/

namespace Sys2Proof.Machine

@[simp] theorem feedAll_nil (k : DeviceKind) (acc : BitVec 32) (reg : RegId) : feedAll k acc [] reg = acc := rfl

@[simp] theorem feedAll_cons (k : DeviceKind) (acc : BitVec 32) (w : Word) (ws : List Word) (reg : RegId) :
    feedAll k acc (w :: ws) reg = feedAll k (feed k acc w reg) ws reg := rfl

theorem feedAll_append (k : DeviceKind) (acc : BitVec 32) (ws vs : List Word) (reg : RegId) :
    feedAll k acc (ws ++ vs) reg = feedAll k (feedAll k acc ws reg) vs reg :=
  List.foldl_append

/-- A property of accumulators that one update keeps is kept by any number of them. -/
theorem feedAll_keeps {k : DeviceKind} {reg : RegId} {P : BitVec 32 → Prop}
    (h : ∀ acc w, P acc → P (feed k acc w reg)) {acc : BitVec 32} (hacc : P acc) (ws : List Word) :
    P (feedAll k acc ws reg) := by
  induction ws generalizing acc with
  | nil => exact hacc
  | cons w rest ih => exact ih (h acc w hacc)

@[simp] theorem lfsrBits_zero {w : Nat} (poly acc : BitVec w) (v : Nat) : lfsrBits poly acc v 0 = acc := rfl

/-- The bits of a value, lowest first, one more at a time. -/
theorem lfsrBits_succ {w : Nat} (poly acc : BitVec w) (v n : Nat) :
    lfsrBits poly acc v (n + 1) = lfsrBit poly (lfsrBits poly acc v n) (v.testBit n) := by
  simp [lfsrBits, bitsLowFirst, List.range_succ]

/-- A write to the Crc register or to a debug register feeds nothing (R82). -/
theorem absorb_exempt {s : State} {e : RegEntry} (h : e.tag = .crc ∨ e.id ∈ s.debugExempt) (ws : List Word) :
    s.absorb e ws = s.checksum := by
  rcases h with h | h <;> simp [State.absorb, State.exempt, h]

/-- A write to any other register feeds its words in order (R81). -/
theorem absorb_fed {s : State} {e : RegEntry} (h1 : e.tag ≠ .crc) (h2 : e.id ∉ s.debugExempt) (ws : List Word) :
    s.absorb e ws = feedAll s.kind s.checksum ws e.id := by
  simp [State.absorb, State.exempt, h1, h2]

/-- What a write's words do to the accumulator is to leave it or to feed them. -/
theorem absorb_cases (s : State) (e : RegEntry) (ws : List Word) :
    s.absorb e ws = s.checksum ∨ s.absorb e ws = feedAll s.kind s.checksum ws e.id := by
  unfold State.absorb
  split
  · exact .inl rfl
  · exact .inr rfl

@[simp] theorem afterAutoCheck_match (acc : BitVec 32) : afterAutoCheck acc acc = 0 := by simp [afterAutoCheck]

theorem afterAutoCheck_mismatch {expected acc : BitVec 32} (h : expected ≠ acc) : afterAutoCheck expected acc = acc := by
  simp [afterAutoCheck, h]

@[simp] theorem RegValue.toNat_bits16 (v : BitVec 16) : (RegValue.bits16 v).toNat = v.toNat := rfl
@[simp] theorem RegValue.toNat_bits32 (v : BitVec 32) : (RegValue.bits32 v).toNat = v.toNat := rfl
@[simp] theorem RegValue.toNat_bits64 (v : BitVec 64) : (RegValue.bits64 v).toNat = v.toNat := rfl

@[simp] theorem crcCheck_offset (o : Nat) (v : RegValue) (acc : BitVec 32) : (crcCheck o v acc).offset = o := rfl
@[simp] theorem crcCheck_expected (o : Nat) (v : RegValue) (acc : BitVec 32) : (crcCheck o v acc).expected = v := rfl
@[simp] theorem crcCheck_computed (o : Nat) (v : RegValue) (acc : BitVec 32) : (crcCheck o v acc).computed = acc := rfl
@[simp] theorem crcCheck_matched (o : Nat) (v : RegValue) (acc : BitVec 32) :
    (crcCheck o v acc).matched = (v.toNat == acc.toNat) := rfl

/-- A 32-bit value matches exactly when it is the accumulator. -/
theorem crcCheck_bits32 (o : Nat) (v acc : BitVec 32) :
    crcCheck o (.bits32 v) acc = ⟨o, .bits32 v, acc, v == acc⟩ := by
  have h : (v.toNat == acc.toNat) = (v == acc) := by
    rw [Bool.eq_iff_iff]
    simp [BitVec.toNat_inj]
  simp only [crcCheck, RegValue.toNat_bits32, h]

/-- Only a write to the Crc register carries an event (R97). -/
theorem writeEvents_crc {s : State} {wb : Nat} {e : RegEntry} {pl : Payload} (h : e.tag = .crc) :
    writeEvents s wb e pl = [crcCheck pl.window.offset (valueOf wb pl.words) s.checksum] := if_pos h

theorem writeEvents_other {s : State} {wb : Nat} {e : RegEntry} {pl : Payload} (h : e.tag ≠ .crc) :
    writeEvents s wb e pl = [] := if_neg h

end Sys2Proof.Machine
end

