-- ==== Sys2Proof/Laws/Memory.lean ====
section
/-!
SUPPORT. The input buffer: every operation keeps the canonical form, a read after a write, and the bytes a read is made of.
-/

namespace Sys2Proof.Machine

/-- Canonical cells stay canonical between wider bounds. -/
theorem cellsOk_mono {lo lo' hi hi' : Nat} {cs : List Host.Cell} (hlo : lo' ≤ lo) (hhi : hi ≤ hi')
    (h : cellsOk lo hi cs = true) : cellsOk lo' hi' cs = true := by
  induction cs generalizing lo lo' with
  | nil => rfl
  | cons c rest ih =>
    obtain ⟨a, b⟩ := c
    simp only [cellsOk, Bool.and_eq_true, decide_eq_true_eq] at h ⊢
    exact ⟨⟨⟨by omega, by omega⟩, h.1.2⟩, ih le_rfl h.2⟩

theorem Memory.empty_wf : Memory.empty.wf = true := rfl

/-- The cells of consecutive bytes are canonical. -/
theorem cellsFrom_ok (bs : List Byte) (a : Nat) : cellsOk a (a + bs.length) (cellsFrom a bs) = true := by
  induction bs generalizing a with
  | nil => rfl
  | cons b rest ih =>
    have h := ih (a + 1)
    simp only [List.length_cons, cellsFrom]
    split
    · exact cellsOk_mono (by omega) (by omega) h
    · rename_i hb
      simp only [cellsOk, Bool.and_eq_true, decide_eq_true_eq, Bool.not_eq_true', beq_eq_false_iff_ne]
      exact ⟨⟨⟨le_rfl, by omega⟩, hb⟩, cellsOk_mono le_rfl (by omega) h⟩

theorem Memory.ofBytes_wf (bs : List Byte) : (Memory.ofBytes bs).wf = true := by
  have h := cellsFrom_ok bs 0
  rw [Nat.zero_add] at h
  exact h

/-- Replacing a byte keeps cells canonical. -/
theorem setCell_ok {lo hi x : Nat} {cs : List Host.Cell} (v : Byte) (hlo : lo ≤ x) (hhi : x < hi)
    (h : cellsOk lo hi cs = true) : cellsOk lo hi (setCell cs x v) = true := by
  induction cs generalizing lo with
  | nil =>
    simp only [setCell]
    split
    · rfl
    · rename_i hv
      simp [cellsOk, hlo, hhi, hv]
  | cons c rest ih =>
    obtain ⟨a, b⟩ := c
    simp only [cellsOk, Bool.and_eq_true, decide_eq_true_eq] at h
    obtain ⟨⟨⟨h1, h2⟩, h3⟩, h4⟩ := h
    simp only [setCell]
    split
    · rename_i hax
      simp only [cellsOk, Bool.and_eq_true, decide_eq_true_eq]
      exact ⟨⟨⟨h1, h2⟩, h3⟩, ih (by omega) h4⟩
    · split
      · rename_i hax
        subst hax
        split
        · exact cellsOk_mono (by omega) le_rfl h4
        · rename_i hv
          simp [cellsOk, h1, h2, hv, h4]
      · rename_i hlt hne
        have hx : x + 1 ≤ a := by omega
        split
        · simp only [cellsOk, Bool.and_eq_true, decide_eq_true_eq]
          exact ⟨⟨⟨h1, h2⟩, h3⟩, h4⟩
        · rename_i hv
          simp only [cellsOk, Bool.and_eq_true, decide_eq_true_eq, Bool.not_eq_true', beq_eq_false_iff_ne]
          exact ⟨⟨⟨hlo, hhi⟩, hv⟩, ⟨⟨⟨hx, h2⟩, by simpa using h3⟩, h4⟩⟩

theorem Memory.set_wf {m : Memory} (h : m.wf = true) (a : Nat) (v : Byte) : (m.set a v).wf = true :=
  setCell_ok v (Nat.zero_le a) (by simp [Memory.set]) (cellsOk_mono le_rfl (by simp [Memory.set]) h)

theorem Memory.place_wf {m : Memory} (h : m.wf = true) (a : Nat) (bs : List Byte) : (m.place a bs).wf = true := by
  induction bs generalizing m a with
  | nil => exact h
  | cons b rest ih => exact ih (Memory.set_wf h a b) (a + 1)

/-- An address below every listed one reads as unlisted. -/
theorem cellAt_below {lo hi x : Nat} {cs : List Host.Cell} (h : cellsOk lo hi cs = true) (hx : x < lo) :
    cellAt cs x = unlistedByte := by
  induction cs generalizing lo with
  | nil => rfl
  | cons c rest ih =>
    obtain ⟨a, b⟩ := c
    simp only [cellsOk, Bool.and_eq_true, decide_eq_true_eq] at h
    simp only [cellAt, if_neg (by omega : ¬ a = x)]
    exact ih h.2 (by omega)

/-- READ AFTER WRITE: the byte written is the byte read. -/
theorem cellAt_setCell_same {lo hi : Nat} {cs : List Host.Cell} (x : Nat) (v : Byte) (h : cellsOk lo hi cs = true) :
    cellAt (setCell cs x v) x = v := by
  induction cs generalizing lo with
  | nil =>
    simp only [setCell]
    split
    · rename_i hv
      exact hv.symm
    · simp [cellAt]
  | cons c rest ih =>
    obtain ⟨a, b⟩ := c
    simp only [cellsOk, Bool.and_eq_true, decide_eq_true_eq] at h
    simp only [setCell]
    split
    · rename_i hax
      simp only [cellAt, if_neg (by omega : ¬ a = x)]
      exact ih h.2
    · split
      · rename_i hax
        split
        · rename_i hv
          rw [hv]
          exact cellAt_below h.2 (by omega)
        · simp [cellAt]
      · rename_i hlt hne
        split
        · rename_i hv
          simp only [cellAt, if_neg hne]
          rw [hv]
          exact cellAt_below h.2 (by omega)
        · simp [cellAt]

/-- A write leaves every other address alone. -/
theorem cellAt_setCell_other {x y : Nat} (cs : List Host.Cell) (v : Byte) (hxy : y ≠ x) :
    cellAt (setCell cs x v) y = cellAt cs y := by
  induction cs with
  | nil =>
    simp only [setCell]
    split
    · rfl
    · simp [cellAt, hxy.symm]
  | cons c rest ih =>
    obtain ⟨a, b⟩ := c
    simp only [setCell]
    split
    · simp only [cellAt, ih]
    · split
      · rename_i hax
        subst hax
        split <;> simp [cellAt, hxy.symm]
      · split <;> simp [cellAt, hxy.symm]

theorem Memory.get_set_same {m : Memory} (h : m.wf = true) (a : Nat) (v : Byte) : (m.set a v).get a = v :=
  cellAt_setCell_same a v h

theorem Memory.get_set_other (m : Memory) {a x : Nat} (v : Byte) (h : x ≠ a) : (m.set a v).get x = m.get x :=
  cellAt_setCell_other m.cells v h

@[simp] theorem Memory.set_len (m : Memory) (a : Nat) (v : Byte) : (m.set a v).len = max m.len (a + 1) := rfl

/-- Placing bytes leaves every address below them alone. -/
theorem Memory.get_place_below {m : Memory} {a x : Nat} (bs : List Byte) (h : x < a) :
    (m.place a bs).get x = m.get x := by
  induction bs generalizing m a with
  | nil => rfl
  | cons b rest ih =>
    simp only [Memory.place]
    rw [ih (by omega), Memory.get_set_other m b (by omega)]

/-- Placed bytes read back in order. -/
theorem Memory.get_place {m : Memory} (h : m.wf = true) (a : Nat) (bs : List Byte) {i : Nat} (hi : i < bs.length) :
    (m.place a bs).get (a + i) = bs[i] := by
  induction bs generalizing m a i with
  | nil => exact absurd hi (by simp)
  | cons b rest ih =>
    simp only [Memory.place]
    cases i with
    | zero =>
      simp only [Nat.add_zero, List.getElem_cons_zero]
      rw [Memory.get_place_below rest (by omega), Memory.get_set_same h]
    | succ j =>
      have := ih (Memory.set_wf h a b) (a + 1) (i := j) (by simpa using hi)
      simpa [Nat.add_assoc, Nat.add_comm 1 j] using this

/-- The buffer of given bytes reads as them. -/
theorem cellAt_cellsFrom (bs : List Byte) (a i : Nat) (hi : i < bs.length) : cellAt (cellsFrom a bs) (a + i) = bs[i] := by
  induction bs generalizing a i with
  | nil => exact absurd hi (by simp)
  | cons b rest ih =>
    simp only [cellsFrom]
    cases i with
    | zero =>
      split
      · rename_i hb
        simp only [Nat.add_zero, List.getElem_cons_zero]
        rw [hb]
        exact cellAt_below (cellsFrom_ok rest (a + 1)) (by omega)
      · simp [cellAt]
    | succ j =>
      have h := ih (a + 1) j (by simpa using hi)
      have e : a + 1 + j = a + (j + 1) := by omega
      rw [e] at h
      split
      · simpa using h
      · simp only [cellAt, if_neg (by omega : ¬ a = a + (j + 1)), List.getElem_cons_succ]
        exact h

theorem Memory.get_ofBytes (bs : List Byte) {i : Nat} (hi : i < bs.length) : (Memory.ofBytes bs).get i = bs[i] := by
  have h := cellAt_cellsFrom bs 0 i hi
  rwa [Nat.zero_add] at h

@[simp] theorem Memory.ofBytes_len (bs : List Byte) : (Memory.ofBytes bs).len = bs.length := rfl

/-- The bytes of the state that are placed keep the canonical form. -/
theorem State.withBytes_wf {s : State} (h : s.buf.wf = true) (bs : List Byte) : (s.withBytes bs).buf.wf = true :=
  Memory.place_wf h s.position bs

@[simp] theorem Memory.slice_length (m : Memory) (a n : Nat) : (m.slice a n).length = n := by
  simp [Memory.slice]

theorem Memory.slice_two (m : Memory) (a : Nat) : m.slice a 2 = [m.get a, m.get (a + 1)] := rfl

theorem Memory.slice_four (m : Memory) (a : Nat) :
    m.slice a 4 = [m.get a, m.get (a + 1), m.get (a + 2), m.get (a + 3)] := rfl

/-- A slice begins with any shorter slice from the same offset. -/
theorem Memory.slice_take (m : Memory) (a n k : Nat) : (m.slice a n).take k = m.slice a (min k n) := by
  simp [Memory.slice, ← List.map_take, List.take_range]

/-- A slice goes on with the slice from a later offset. -/
theorem Memory.slice_drop (m : Memory) (a n k : Nat) : (m.slice a n).drop k = m.slice (a + k) (n - k) := by
  apply List.ext_getElem
  · simp
  · intro i h1 h2
    simp [Memory.slice, Nat.add_assoc]

/-- Buffers that agree on the bytes of a slice give the same slice. -/
theorem Memory.slice_congr {m m' : Memory} {a n : Nat} (h : ∀ i, a ≤ i → i < a + n → m.get i = m'.get i) :
    m.slice a n = m'.slice a n := by
  apply List.map_congr_left
  intro i hi
  have := List.mem_range.mp hi
  exact h (a + i) (by omega) (by omega)

/-- Buffers that agree on the bytes of a read give the same value. -/
theorem Memory.read_congr {m m' : Memory} {a n : Nat} (h : ∀ i, a ≤ i → i < a + n → m.get i = m'.get i) :
    m.read a n = m'.read a n := by
  simp only [Memory.read, Memory.slice_congr h]

/-- The bytes are equal below the length exactly when the bounded reads are. -/
theorem Memory.get_eq_of_byte_eq {m m' : Memory} (hl : m.len = m'.len) {a : Nat} (ha : a < m.len)
    (h : m.byte a = m'.byte a) : m.get a = m'.get a := by
  have ha' : a < m'.len := by omega
  simpa [Memory.byte, ha, ha'] using h

/-- A 32-bit value is its two 16-bit words, the word at the lower offset high (R46). -/
theorem Memory.read_four_eq_append (m : Memory) (a : Nat) :
    m.read a 4 = (m.read a 2).setWidth 16 ++ (m.read (a + 2) 2).setWidth 16 := by
  apply BitVec.eq_of_toNat_eq
  have h0 := (m.get a).isLt
  have h1 := (m.get (a + 1)).isLt
  have h2 := (m.get (a + 2)).isLt
  have h3 := (m.get (a + 3)).isLt
  have e : a + 2 + 1 = a + 3 := rfl
  simp only [Memory.read, Memory.slice_two, Memory.slice_four, beValue, List.foldl, BitVec.toNat_ofNat,
    BitVec.toNat_append, BitVec.toNat_setWidth, Nat.shiftLeft_eq, e]
  rw [Nat.mul_comm _ (2 ^ 16), ← Nat.two_pow_add_eq_or_of_lt (by omega)]
  omega

/-- The value of a 2-byte read fits 16 bits. -/
theorem Memory.read_two_lt (m : Memory) (a : Nat) : (m.read a 2).toNat < 2 ^ 16 := by
  have h0 := (m.get a).isLt
  have h1 := (m.get (a + 1)).isLt
  simp only [Memory.read, Memory.slice_two, beValue, List.foldl, BitVec.toNat_ofNat]
  omega

/-- The words of a write of one word. -/
theorem wordsAt_one (m : Memory) (p wb : Nat) : wordsAt m p wb 1 = [m.read p wb] := by
  simp [wordsAt]

/-- The words of a write of two words. -/
theorem wordsAt_two (m : Memory) (p wb : Nat) : wordsAt m p wb 2 = [m.read p wb, m.read (p + wb) wb] := by
  simp [wordsAt, List.range_succ]

@[simp] theorem wordsAt_length (m : Memory) (p wb n : Nat) : (wordsAt m p wb n).length = n := by
  simp [wordsAt]

/-- Buffers that agree on the bytes of the words give the same words. -/
theorem wordsAt_congr {m m' : Memory} {p wb n : Nat} (h : ∀ i, p ≤ i → i < p + n * wb → m.get i = m'.get i) :
    wordsAt m p wb n = wordsAt m' p wb n := by
  apply List.map_congr_left
  intro i hi
  have hi := List.mem_range.mp hi
  apply Memory.read_congr
  intro j h1 h2
  apply h j
  · exact le_trans (Nat.le_add_right p (i * wb)) h1
  · have : i * wb + wb ≤ n * wb := by
      have := Nat.mul_le_mul_right wb (by omega : i + 1 ≤ n)
      linarith [Nat.succ_mul i wb]
    omega

/-- A run of zero words ends within the buffer: every word of it was read. -/
theorem zeroWords_le (m : Memory) (pos fuel : Nat) (h : pos ≤ m.len) : pos + 4 * zeroWords m pos fuel ≤ m.len := by
  induction fuel generalizing pos with
  | zero => simpa [zeroWords] using h
  | succ n ih =>
    simp only [zeroWords]
    split
    · rename_i hz
      have h4 : pos + 4 ≤ m.len := by
        by_contra hc
        simp [peekWord, readWord, if_neg hc] at hz
      have := ih (pos + 4) h4
      omega
    · simpa using h

/-- Reading a word is reading its bytes, within the bound. -/
theorem readWord_eq_some {m : Memory} {pos n : Nat} {v : Word} {q : Nat} :
    readWord m pos n = some (v, q) ↔ pos + n ≤ m.len ∧ v = m.read pos n ∧ q = pos + n := by
  unfold readWord
  split <;> simp_all [eq_comm]

theorem readWord_eq_none {m : Memory} {pos n : Nat} : readWord m pos n = none ↔ m.len < pos + n := by
  unfold readWord
  split <;> simp_all

theorem peekWord_eq_some {m : Memory} {pos n : Nat} {v : Word} :
    peekWord m pos n = some v ↔ pos + n ≤ m.len ∧ v = m.read pos n := by
  unfold peekWord readWord
  split <;> simp_all [eq_comm]

end Sys2Proof.Machine
end

