-- ==== Sys2Proof/Laws/State.lean ====
section
/-!
SUPPORT. One lemma per field per update of the state, and what the working copy of each procedure holds.
-/

namespace Sys2Proof.Machine

@[simp] theorem State.fail_kind (s : State) (k : ErrorKind) (a : Nat) : (s.fail k a).kind = s.kind := rfl
@[simp] theorem State.fail_cfg (s : State) (k : ErrorKind) (a : Nat) : (s.fail k a).cfg = s.cfg := rfl
@[simp] theorem State.fail_buf (s : State) (k : ErrorKind) (a : Nat) : (s.fail k a).buf = s.buf := rfl
@[simp] theorem State.fail_position (s : State) (k : ErrorKind) (a : Nat) : (s.fail k a).position = s.position := rfl
@[simp] theorem State.fail_synced (s : State) (k : ErrorKind) (a : Nat) : (s.fail k a).synced = s.synced := rfl
@[simp] theorem State.fail_lastRegister (s : State) (k : ErrorKind) (a : Nat) : (s.fail k a).lastRegister = s.lastRegister := rfl
@[simp] theorem State.fail_checksum (s : State) (k : ErrorKind) (a : Nat) : (s.fail k a).checksum = s.checksum := rfl
@[simp] theorem State.fail_status (s : State) (k : ErrorKind) (a : Nat) : (s.fail k a).status = .failed k a := rfl
@[simp] theorem State.fail_results (s : State) (k : ErrorKind) (a : Nat) : (s.fail k a).results = s.results ++ [.error k a] := rfl

@[simp] theorem State.finish_kind (s : State) : (s.finish).kind = s.kind := rfl
@[simp] theorem State.finish_cfg (s : State) : (s.finish).cfg = s.cfg := rfl
@[simp] theorem State.finish_buf (s : State) : (s.finish).buf = s.buf := rfl
@[simp] theorem State.finish_position (s : State) : (s.finish).position = s.position := rfl
@[simp] theorem State.finish_synced (s : State) : (s.finish).synced = s.synced := rfl
@[simp] theorem State.finish_lastRegister (s : State) : (s.finish).lastRegister = s.lastRegister := rfl
@[simp] theorem State.finish_checksum (s : State) : (s.finish).checksum = s.checksum := rfl
@[simp] theorem State.finish_status (s : State) : (s.finish).status = .ended := rfl
@[simp] theorem State.finish_results (s : State) : (s.finish).results = s.results ++ [.endOfSequence] := rfl

@[simp] theorem State.commit_kind (s : State) (y : Yield) : (s.commit y).kind = y.after.kind := rfl
@[simp] theorem State.commit_cfg (s : State) (y : Yield) : (s.commit y).cfg = y.after.cfg := rfl
@[simp] theorem State.commit_buf (s : State) (y : Yield) : (s.commit y).buf = y.after.buf := rfl
@[simp] theorem State.commit_position (s : State) (y : Yield) : (s.commit y).position = y.after.position := rfl
@[simp] theorem State.commit_synced (s : State) (y : Yield) : (s.commit y).synced = y.after.synced := rfl
@[simp] theorem State.commit_lastRegister (s : State) (y : Yield) : (s.commit y).lastRegister = y.after.lastRegister := rfl
@[simp] theorem State.commit_checksum (s : State) (y : Yield) : (s.commit y).checksum = y.after.checksum := rfl
@[simp] theorem State.commit_status (s : State) (y : Yield) : (s.commit y).status = y.after.status := rfl
@[simp] theorem State.commit_results (s : State) (y : Yield) : (s.commit y).results = s.results ++ [.packet y.packet s.position y.events] := rfl

@[simp] theorem State.withBytes_kind (s : State) (bs : List Byte) : (s.withBytes bs).kind = s.kind := rfl
@[simp] theorem State.withBytes_cfg (s : State) (bs : List Byte) : (s.withBytes bs).cfg = s.cfg := rfl
@[simp] theorem State.withBytes_buf (s : State) (bs : List Byte) : (s.withBytes bs).buf = s.buf.place s.position bs := rfl
@[simp] theorem State.withBytes_position (s : State) (bs : List Byte) : (s.withBytes bs).position = s.position := rfl
@[simp] theorem State.withBytes_synced (s : State) (bs : List Byte) : (s.withBytes bs).synced = s.synced := rfl
@[simp] theorem State.withBytes_lastRegister (s : State) (bs : List Byte) : (s.withBytes bs).lastRegister = s.lastRegister := rfl
@[simp] theorem State.withBytes_checksum (s : State) (bs : List Byte) : (s.withBytes bs).checksum = s.checksum := rfl
@[simp] theorem State.withBytes_status (s : State) (bs : List Byte) : (s.withBytes bs).status = s.status := rfl
@[simp] theorem State.withBytes_results (s : State) (bs : List Byte) : (s.withBytes bs).results = s.results := rfl

@[simp] theorem State.errored_kind (s : State) (k : ErrorKind) (a : Nat) : (s.errored k a).kind = s.kind := rfl
@[simp] theorem State.errored_cfg (s : State) (k : ErrorKind) (a : Nat) : (s.errored k a).cfg = s.cfg := rfl
@[simp] theorem State.errored_buf (s : State) (k : ErrorKind) (a : Nat) : (s.errored k a).buf = s.buf := rfl
@[simp] theorem State.errored_position (s : State) (k : ErrorKind) (a : Nat) : (s.errored k a).position = s.position := rfl
@[simp] theorem State.errored_synced (s : State) (k : ErrorKind) (a : Nat) : (s.errored k a).synced = s.synced := rfl
@[simp] theorem State.errored_lastRegister (s : State) (k : ErrorKind) (a : Nat) : (s.errored k a).lastRegister = s.lastRegister := rfl
@[simp] theorem State.errored_checksum (s : State) (k : ErrorKind) (a : Nat) : (s.errored k a).checksum = s.checksum := rfl
@[simp] theorem State.errored_status (s : State) (k : ErrorKind) (a : Nat) : (s.errored k a).status = .failed k a := rfl
@[simp] theorem State.errored_results (s : State) (k : ErrorKind) (a : Nat) : (s.errored k a).results = s.results ++ [.error k a] := rfl

@[simp] theorem State.framed_kind (s : State) (n : Nat) (b : Bool) (p : Packet) : (s.framed n b p).kind = s.kind := rfl
@[simp] theorem State.framed_cfg (s : State) (n : Nat) (b : Bool) (p : Packet) : (s.framed n b p).cfg = s.cfg := rfl
@[simp] theorem State.framed_buf (s : State) (n : Nat) (b : Bool) (p : Packet) : (s.framed n b p).buf = s.buf := rfl
@[simp] theorem State.framed_position (s : State) (n : Nat) (b : Bool) (p : Packet) : (s.framed n b p).position = s.position + n := rfl
@[simp] theorem State.framed_synced (s : State) (n : Nat) (b : Bool) (p : Packet) : (s.framed n b p).synced = b := rfl
@[simp] theorem State.framed_lastRegister (s : State) (n : Nat) (b : Bool) (p : Packet) : (s.framed n b p).lastRegister = s.lastRegister := rfl
@[simp] theorem State.framed_checksum (s : State) (n : Nat) (b : Bool) (p : Packet) : (s.framed n b p).checksum = s.checksum := rfl
@[simp] theorem State.framed_status (s : State) (n : Nat) (b : Bool) (p : Packet) : (s.framed n b p).status = s.status := rfl
@[simp] theorem State.framed_results (s : State) (n : Nat) (b : Bool) (p : Packet) : (s.framed n b p).results = s.results ++ [.packet p s.position []] := rfl

@[simp] theorem State.wrote_kind (s : State) (r : RegId) (n : Nat) (sum : BitVec 32) (p : Packet) (evs : List CrcCheck) : (s.wrote r n sum p evs).kind = s.kind := rfl
@[simp] theorem State.wrote_cfg (s : State) (r : RegId) (n : Nat) (sum : BitVec 32) (p : Packet) (evs : List CrcCheck) : (s.wrote r n sum p evs).cfg = s.cfg := rfl
@[simp] theorem State.wrote_buf (s : State) (r : RegId) (n : Nat) (sum : BitVec 32) (p : Packet) (evs : List CrcCheck) : (s.wrote r n sum p evs).buf = s.buf := rfl
@[simp] theorem State.wrote_position (s : State) (r : RegId) (n : Nat) (sum : BitVec 32) (p : Packet) (evs : List CrcCheck) : (s.wrote r n sum p evs).position = s.position + n := rfl
@[simp] theorem State.wrote_synced (s : State) (r : RegId) (n : Nat) (sum : BitVec 32) (p : Packet) (evs : List CrcCheck) : (s.wrote r n sum p evs).synced = s.synced := rfl
@[simp] theorem State.wrote_lastRegister (s : State) (r : RegId) (n : Nat) (sum : BitVec 32) (p : Packet) (evs : List CrcCheck) : (s.wrote r n sum p evs).lastRegister = some r := rfl
@[simp] theorem State.wrote_checksum (s : State) (r : RegId) (n : Nat) (sum : BitVec 32) (p : Packet) (evs : List CrcCheck) : (s.wrote r n sum p evs).checksum = sum := rfl
@[simp] theorem State.wrote_status (s : State) (r : RegId) (n : Nat) (sum : BitVec 32) (p : Packet) (evs : List CrcCheck) : (s.wrote r n sum p evs).status = s.status := rfl
@[simp] theorem State.wrote_results (s : State) (r : RegId) (n : Nat) (sum : BitVec 32) (p : Packet) (evs : List CrcCheck) : (s.wrote r n sum p evs).results = s.results ++ [.packet p s.position evs] := rfl

@[simp] theorem State.wroteLong_kind (s : State) (n : Nat) (sum : BitVec 32) (p : Packet) (evs : List CrcCheck) : (s.wroteLong n sum p evs).kind = s.kind := rfl
@[simp] theorem State.wroteLong_cfg (s : State) (n : Nat) (sum : BitVec 32) (p : Packet) (evs : List CrcCheck) : (s.wroteLong n sum p evs).cfg = s.cfg := rfl
@[simp] theorem State.wroteLong_buf (s : State) (n : Nat) (sum : BitVec 32) (p : Packet) (evs : List CrcCheck) : (s.wroteLong n sum p evs).buf = s.buf := rfl
@[simp] theorem State.wroteLong_position (s : State) (n : Nat) (sum : BitVec 32) (p : Packet) (evs : List CrcCheck) : (s.wroteLong n sum p evs).position = s.position + n := rfl
@[simp] theorem State.wroteLong_synced (s : State) (n : Nat) (sum : BitVec 32) (p : Packet) (evs : List CrcCheck) : (s.wroteLong n sum p evs).synced = s.synced := rfl
@[simp] theorem State.wroteLong_lastRegister (s : State) (n : Nat) (sum : BitVec 32) (p : Packet) (evs : List CrcCheck) : (s.wroteLong n sum p evs).lastRegister = s.lastRegister := rfl
@[simp] theorem State.wroteLong_checksum (s : State) (n : Nat) (sum : BitVec 32) (p : Packet) (evs : List CrcCheck) : (s.wroteLong n sum p evs).checksum = sum := rfl
@[simp] theorem State.wroteLong_status (s : State) (n : Nat) (sum : BitVec 32) (p : Packet) (evs : List CrcCheck) : (s.wroteLong n sum p evs).status = s.status := rfl
@[simp] theorem State.wroteLong_results (s : State) (n : Nat) (sum : BitVec 32) (p : Packet) (evs : List CrcCheck) : (s.wroteLong n sum p evs).results = s.results ++ [.packet p s.position evs] := rfl

@[simp] theorem framing_kind (s : State) (p : Packet) (n : Nat) (b : Bool) : (framing s p n b).after.kind = s.kind := rfl
@[simp] theorem framing_cfg (s : State) (p : Packet) (n : Nat) (b : Bool) : (framing s p n b).after.cfg = s.cfg := rfl
@[simp] theorem framing_buf (s : State) (p : Packet) (n : Nat) (b : Bool) : (framing s p n b).after.buf = s.buf := rfl
@[simp] theorem framing_position (s : State) (p : Packet) (n : Nat) (b : Bool) : (framing s p n b).after.position = s.position + n := rfl
@[simp] theorem framing_synced (s : State) (p : Packet) (n : Nat) (b : Bool) : (framing s p n b).after.synced = b := rfl
@[simp] theorem framing_lastRegister (s : State) (p : Packet) (n : Nat) (b : Bool) : (framing s p n b).after.lastRegister = s.lastRegister := rfl
@[simp] theorem framing_checksum (s : State) (p : Packet) (n : Nat) (b : Bool) : (framing s p n b).after.checksum = s.checksum := rfl
@[simp] theorem framing_status (s : State) (p : Packet) (n : Nat) (b : Bool) : (framing s p n b).after.status = s.status := rfl
@[simp] theorem framing_results (s : State) (p : Packet) (n : Nat) (b : Bool) : (framing s p n b).after.results = s.results := rfl

@[simp] theorem finishWrite_kind (s : State) (wb : Nat) (e : RegEntry) (pl : Payload) (p : Packet) : (finishWrite s wb e pl p).after.kind = s.kind := rfl
@[simp] theorem finishWrite_cfg (s : State) (wb : Nat) (e : RegEntry) (pl : Payload) (p : Packet) : (finishWrite s wb e pl p).after.cfg = s.cfg := rfl
@[simp] theorem finishWrite_buf (s : State) (wb : Nat) (e : RegEntry) (pl : Payload) (p : Packet) : (finishWrite s wb e pl p).after.buf = s.buf := rfl
@[simp] theorem finishWrite_position (s : State) (wb : Nat) (e : RegEntry) (pl : Payload) (p : Packet) : (finishWrite s wb e pl p).after.position = pl.next := rfl
@[simp] theorem finishWrite_synced (s : State) (wb : Nat) (e : RegEntry) (pl : Payload) (p : Packet) : (finishWrite s wb e pl p).after.synced = s.synced := rfl
@[simp] theorem finishWrite_lastRegister (s : State) (wb : Nat) (e : RegEntry) (pl : Payload) (p : Packet) : (finishWrite s wb e pl p).after.lastRegister = some e.id := rfl
@[simp] theorem finishWrite_checksum (s : State) (wb : Nat) (e : RegEntry) (pl : Payload) (p : Packet) : (finishWrite s wb e pl p).after.checksum = if p = .command .rcrc then 0 else s.absorb e pl.words := rfl
@[simp] theorem finishWrite_status (s : State) (wb : Nat) (e : RegEntry) (pl : Payload) (p : Packet) : (finishWrite s wb e pl p).after.status = s.status := rfl
@[simp] theorem finishWrite_results (s : State) (wb : Nat) (e : RegEntry) (pl : Payload) (p : Packet) : (finishWrite s wb e pl p).after.results = s.results := rfl

@[simp] theorem longYield_kind (s : State) (e : RegEntry) (pl : Payload) (p : Packet) : (longYield s e pl p).after.kind = s.kind := rfl
@[simp] theorem longYield_cfg (s : State) (e : RegEntry) (pl : Payload) (p : Packet) : (longYield s e pl p).after.cfg = s.cfg := rfl
@[simp] theorem longYield_buf (s : State) (e : RegEntry) (pl : Payload) (p : Packet) : (longYield s e pl p).after.buf = s.buf := rfl
@[simp] theorem longYield_position (s : State) (e : RegEntry) (pl : Payload) (p : Packet) : (longYield s e pl p).after.position = pl.next := rfl
@[simp] theorem longYield_synced (s : State) (e : RegEntry) (pl : Payload) (p : Packet) : (longYield s e pl p).after.synced = s.synced := rfl
@[simp] theorem longYield_lastRegister (s : State) (e : RegEntry) (pl : Payload) (p : Packet) : (longYield s e pl p).after.lastRegister = s.lastRegister := rfl
@[simp] theorem longYield_checksum (s : State) (e : RegEntry) (pl : Payload) (p : Packet) : (longYield s e pl p).after.checksum = s.absorb e pl.words := rfl
@[simp] theorem longYield_status (s : State) (e : RegEntry) (pl : Payload) (p : Packet) : (longYield s e pl p).after.status = s.status := rfl
@[simp] theorem longYield_results (s : State) (e : RegEntry) (pl : Payload) (p : Packet) : (longYield s e pl p).after.results = s.results := rfl

@[simp] theorem framing_packet (s : State) (p : Packet) (n : Nat) (b : Bool) : (framing s p n b).packet = p := rfl
@[simp] theorem framing_events (s : State) (p : Packet) (n : Nat) (b : Bool) : (framing s p n b).events = [] := rfl
@[simp] theorem finishWrite_packet (s : State) (wb : Nat) (e : RegEntry) (pl : Payload) (p : Packet) :
    (finishWrite s wb e pl p).packet = p := rfl
@[simp] theorem finishWrite_events (s : State) (wb : Nat) (e : RegEntry) (pl : Payload) (p : Packet) :
    (finishWrite s wb e pl p).events = writeEvents s wb e pl := rfl
@[simp] theorem longYield_packet (s : State) (e : RegEntry) (pl : Payload) (p : Packet) :
    (longYield s e pl p).packet = p := rfl
@[simp] theorem longYield_events (s : State) (e : RegEntry) (pl : Payload) (p : Packet) :
    (longYield s e pl p).events = [] := rfl

/-- The statements' error state is the shared operation's. -/
theorem State.errored_eq_fail (s : State) (k : ErrorKind) (a : Nat) : s.errored k a = s.fail k a := rfl

/-- The six cause codes are distinct (R188). -/
theorem ErrorKind.code_injective {k l : ErrorKind} (h : k.code = l.code) : k = l := by
  cases k <;> cases l <;> first | rfl | cases h

/-- The cause codes are 1 to 6 (R188). -/
theorem ErrorKind.code_bounds (k : ErrorKind) : 1 ≤ k.code ∧ k.code ≤ 6 := by
  cases k <;> decide

/-- Look-ups depend only on kind and configuration. -/
theorem State.lookupReg_congr {s t : State} (hk : t.kind = s.kind) (hc : t.cfg = s.cfg) (reg : RegId) :
    t.lookupReg reg = s.lookupReg reg := by
  simp [State.lookupReg, hk, hc]

/-- The buffer of the reset state is in canonical form. -/
theorem State.reset_buf_wf : State.reset.buf.wf = true := rfl

/-- The status is one of the three. -/
theorem Status.cases (st : Status) : st = .running ∨ st = .ended ∨ ∃ k a, st = .failed k a := by
  cases st <;> simp

/-- The events of a stream with results appended. -/
theorem eventStream_append (xs ys : List StepResult) :
    (xs ++ ys).flatMap StepResult.events = xs.flatMap StepResult.events ++ ys.flatMap StepResult.events := by
  simp

end Sys2Proof.Machine
end

