-- ==== Sys2Proof/Laws/Ops.lean ====
section
/-!
SUPPORT. One lemma for each shared operation that says everything it can do; the statements' proofs cite these instead of
unfolding the operations.
-/

namespace Sys2Proof.Machine

/-- A settled step commits the yield, or fails with the error raised. -/
theorem settle_next {s t : State} {r : Except Stop Yield} (h : settle s r = .next t) :
    (∃ y, r = .ok y ∧ t = s.commit y) ∨ ∃ k a, r = .error (.raise k a) ∧ t = s.fail k a := by
  match r, h with
  | .ok y, h => exact .inl ⟨y, rfl, by simpa [settle] using h.symm⟩
  | .error (.raise k a), h => exact .inr ⟨k, a, rfl, by simpa [settle] using h.symm⟩

@[simp] theorem settle_ok (s : State) (y : Yield) : settle s (.ok y) = .next (s.commit y) := rfl
@[simp] theorem settle_raise (s : State) (k : ErrorKind) (a : Nat) :
    settle s (.error (.raise k a)) = .next (s.fail k a) := rfl

theorem inMode_right {b : Bool} {s : State} (h : s.synced = b) (body : Except Stop Yield) : inMode b s body = body := by
  simp [inMode, h]

theorem inMode_wrong {b : Bool} {s : State} (h : s.synced ≠ b) (body : Except Stop Yield) :
    inMode b s body = .error (.raise .unexpectedWord s.position) := by
  simp [inMode, h]

theorem inMode_ok {b : Bool} {s : State} {body : Except Stop Yield} {y : Yield} (h : inMode b s body = .ok y) :
    s.synced = b ∧ body = .ok y := by
  unfold inMode at h
  split at h
  · exact ⟨‹_›, h⟩
  · cases h

theorem payload_ok {s : State} {p wb n : Nat} (h : p + n * wb ≤ s.buf.len) :
    payload s p wb n = .ok ⟨⟨p, n * wb⟩, wordsAt s.buf p wb n, p + n * wb⟩ := by
  simp [payload, readWindow, h]

theorem payload_cut {s : State} {p wb n : Nat} (h : s.buf.len < p + n * wb) :
    payload s p wb n = .error (.raise .truncated s.position) := by
  simp [payload, readWindow, Nat.not_le.mpr h]

/-- The data words of a packet: the whole window within the buffer, or `Truncated`. -/
theorem payload_cases (s : State) (p wb n : Nat) :
    (p + n * wb ≤ s.buf.len ∧ payload s p wb n = .ok ⟨⟨p, n * wb⟩, wordsAt s.buf p wb n, p + n * wb⟩) ∨
    (s.buf.len < p + n * wb ∧ payload s p wb n = .error (.raise .truncated s.position)) := by
  rcases Nat.lt_or_ge s.buf.len (p + n * wb) with h | h
  · exact .inr ⟨h, payload_cut h⟩
  · exact .inl ⟨h, payload_ok h⟩

theorem commandDecode_ok {s : State} {code : Word} {p : Packet} (h : commandDecode s code = .ok p) :
    ∃ c, s.lookupCmd code = some c ∧ p = .command c := by
  unfold commandDecode at h
  split at h
  · exact ⟨_, ‹_›, by simpa using h.symm⟩
  · cases h

/-- The padding check: all bytes of the window zero, or `MalformedPadding`. -/
theorem paddingPacket_cases (s : State) (p len n : Nat) :
    ((∀ a, p ≤ a → a < p + len → s.buf.get a = 0) ∧ paddingPacket s ⟨p, len⟩ n = .ok (.mfwr n)) ∨
    ((¬ ∀ a, p ≤ a → a < p + len → s.buf.get a = 0) ∧
      paddingPacket s ⟨p, len⟩ n = .error (.raise .malformedPadding s.position)) := by
  have key : (Window.bytes s.buf ⟨p, len⟩).all (fun b => b == 0) = true ↔
      ∀ a, p ≤ a → a < p + len → s.buf.get a = 0 := by
    simp only [Window.bytes, Memory.slice, List.all_map, List.all_eq_true, List.mem_range, Function.comp,
      beq_iff_eq]
    constructor
    · intro h a h1 h2
      have := h (a - p) (by omega)
      rwa [Nat.add_sub_cancel' h1] at this
    · intro h i hi
      exact h (p + i) (by omega) (by omega)
  by_cases h : ∀ a, p ≤ a → a < p + len → s.buf.get a = 0
  · exact .inl ⟨h, by rw [paddingPacket, if_pos (key.mpr h)]⟩
  · exact .inr ⟨h, by rw [paddingPacket, if_neg (mt key.mp h)]⟩

/-- What Build can make of a Type-1 write. -/
theorem build_ok {s : State} {wb n : Nat} {e : RegEntry} {pl : Payload} {p : Packet} (h : build s wb e n pl = .ok p) :
    (e.tag = .cmd ∧ ∃ c code rest, pl.words = code :: rest ∧ s.lookupCmd code = some c ∧ p = .command c) ∨
    (e.tag = .mfwr ∧ p = .mfwr n) ∨
    (e.tag = .fdri ∧ p = .fdri pl.window) ∨
    (e.card = .var ∧ p = .window e.tag pl.window) ∨
    (e.card ≠ .var ∧ e.tag = .crc ∧ p = .crc (valueOf wb pl.words)) ∨
    (e.card ≠ .var ∧ e.tag ≠ .crc ∧ p = .value e.tag (valueOf wb pl.words)) := by
  unfold build at h
  split at h
  · refine .inl ⟨‹_›, ?_⟩
    split at h
    · obtain ⟨c, hc, rfl⟩ := commandDecode_ok h
      exact ⟨c, _, _, ‹_›, hc, rfl⟩
    · cases h
  · split at h
    · refine .inr (.inl ⟨‹_›, ?_⟩)
      unfold paddingPacket at h
      split at h
      · simpa using h.symm
      · cases h
    · split at h
      · exact .inr (.inr (.inl ⟨‹_›, by simpa using h.symm⟩))
      · split at h
        · exact .inr (.inr (.inr (.inl ⟨‹_›, by simpa using h.symm⟩)))
        · split at h
          · exact .inr (.inr (.inr (.inr (.inl ⟨‹_›, ‹_›, by simpa using h.symm⟩))))
          · exact .inr (.inr (.inr (.inr (.inr ⟨‹_›, ‹_›, by simpa using h.symm⟩))))

/-- `Value(ws)` of the words of a write, by their number (R99, R46). -/
theorem valueOf_words (m : Memory) (wb n p : Nat) :
    (n = 1 ∧ valueOf wb (wordsAt m p wb n) =
      if wb = 2 then .bits16 ((m.read p wb).setWidth 16) else .bits32 (m.read p wb)) ∨
    (n = 2 ∧ valueOf wb (wordsAt m p wb n) =
      if wb = 2 then .bits32 (m.read p 4) else .bits64 (m.read p wb ++ m.read (p + wb) wb)) ∨
    (n ≠ 1 ∧ n ≠ 2 ∧ valueOf wb (wordsAt m p wb n) = .bits32 (unstatedCrcValue wb (wordsAt m p wb n))) := by
  by_cases h1 : n = 1
  · subst h1
    exact .inl ⟨rfl, by rw [wordsAt_one]; rfl⟩
  · by_cases h2 : n = 2
    · subst h2
      refine .inr (.inl ⟨rfl, ?_⟩)
      rw [wordsAt_two]
      by_cases hw : wb = 2
      · subst hw
        rw [Memory.read_four_eq_append]
        rfl
      · simp [valueOf, hw]
    · refine .inr (.inr ⟨h1, h2, ?_⟩)
      have hl : (wordsAt m p wb n).length = n := wordsAt_length m p wb n
      generalize hg : wordsAt m p wb n = ws at hl
      match ws, hl with
      | [], _ => rfl
      | [_], hl => exact absurd hl.symm h1
      | [_, _], hl => exact absurd hl.symm h2
      | _ :: _ :: _ :: _, _ => rfl

/-- A Type-1 write that yields: its count fits, its packet was built, and it commits what `finishWrite` says. -/
theorem writeBody_ok {s : State} {wb n : Nat} {e : RegEntry} {pl : Payload} {y : Yield}
    (h : writeBody s wb e n pl = .ok y) :
    cardAdmits e.card n = true ∧ ∃ p, build s wb e n pl = .ok p ∧ y = finishWrite s wb e pl p := by
  unfold writeBody at h
  split at h
  · refine ⟨‹_›, ?_⟩
    split at h
    · exact ⟨_, ‹_›, by simpa using h.symm⟩
    · cases h
  · cases h

/-- The data words that a Type-1 write of `n` words of `wb` bytes reads. -/
def writePayload (s : State) (wb n : Nat) : Payload :=
  ⟨⟨s.position + wb, n * wb⟩, wordsAt s.buf (s.position + wb) wb n, s.position + wb + n * wb⟩

theorem type1Write_ok {s : State} {wb n : Nat} {reg : RegId} {y : Yield} (h : type1Write s wb reg n = .ok y) :
    s.synced = true ∧ s.position + wb + n * wb ≤ s.buf.len ∧
    ∃ e p, s.lookupReg reg = some e ∧ cardAdmits e.card n = true ∧ build s wb e n (writePayload s wb n) = .ok p ∧
      y = finishWrite s wb e (writePayload s wb n) p := by
  obtain ⟨hs, h⟩ := inMode_ok h
  rcases payload_cases s (s.position + wb) wb n with ⟨hl, hp⟩ | ⟨-, hp⟩ <;> rw [hp] at h <;> dsimp only at h
  · cases he : s.lookupReg reg with
    | none =>
      rw [he] at h
      cases h
    | some e =>
      rw [he] at h
      obtain ⟨hc, p, hb, hy⟩ := writeBody_ok h
      exact ⟨hs, hl, e, p, rfl, hc, hb, hy⟩
  · cases h

theorem rowWrite_ok {s : State} {wb n : Nat} {e : RegEntry} {y : Yield} (h : rowWrite s wb e n = .ok y) :
    s.synced = true ∧ s.position + wb + n * wb ≤ s.buf.len ∧ cardAdmits e.card n = true ∧
    ∃ p, build s wb e n (writePayload s wb n) = .ok p ∧ y = finishWrite s wb e (writePayload s wb n) p := by
  obtain ⟨hs, h⟩ := inMode_ok h
  rcases payload_cases s (s.position + wb) wb n with ⟨hl, hp⟩ | ⟨-, hp⟩ <;> rw [hp] at h <;> dsimp only at h
  · obtain ⟨hc, p, hb, hy⟩ := writeBody_ok h
    exact ⟨hs, hl, hc, p, hb, hy⟩
  · cases h

theorem commandWrite_ok {s : State} {wb : Nat} {reg : RegId} {code : Word} {c : Command} {y : Yield}
    (h : commandWrite s wb reg code c = .ok y) :
    s.synced = true ∧ s.position + wb + 1 * wb ≤ s.buf.len ∧
    y = finishWrite s wb ⟨reg, .cmd, .one⟩ { writePayload s wb 1 with words := [code] } (.command c) := by
  obtain ⟨hs, h⟩ := inMode_ok h
  rcases payload_cases s (s.position + wb) wb 1 with ⟨hl, hp⟩ | ⟨-, hp⟩ <;> rw [hp] at h <;> dsimp only at h
  · exact ⟨hs, hl, by simpa [writePayload] using h.symm⟩
  · cases h

/-- The packet of a long write, by the tag of its register. -/
theorem longBuild_ok {s : State} {e : RegEntry} {n : Nat} {pl : Payload} {p : Packet} (h : longBuild s e n pl = .ok p) :
    (e.tag = .fdri ∧ p = .fdri pl.window) ∨ (e.tag = .mfwr ∧ p = .mfwr n) ∨
    (e.tag ≠ .fdri ∧ e.tag ≠ .mfwr ∧ p = .window e.tag pl.window) := by
  unfold longBuild at h
  split at h
  · exact .inl ⟨‹_›, by simpa using h.symm⟩
  · split at h
    · refine .inr (.inl ⟨‹_›, ?_⟩)
      unfold paddingPacket at h
      split at h
      · simpa using h.symm
      · cases h
    · exact .inr (.inr ⟨‹_›, ‹_›, by simpa using h.symm⟩)

/-- The working copy after an auto-checksum word with value `a`. -/
def checked (y : Yield) (a : BitVec 32) : Yield where
  packet := y.packet
  events := y.events ++ [crcCheck y.after.position (.bits32 a) y.after.checksum]
  after := { y.after with position := y.after.position + 4, checksum := afterAutoCheck a y.after.checksum }

/-- The auto-checksum of a working copy whose buffer is the state's: the word is present and compared, or `Truncated`. -/
theorem autoCheck_cases (s : State) (y : Yield) :
    (y.after.position + 4 ≤ s.buf.len ∧ autoCheck s y = .ok (checked y (s.buf.read y.after.position 4))) ∨
    (s.buf.len < y.after.position + 4 ∧ autoCheck s y = .error (.raise .truncated s.position)) := by
  rcases Nat.lt_or_ge s.buf.len (y.after.position + 4) with h | h
  · refine .inr ⟨h, ?_⟩
    simp [autoCheck, readWord, Nat.not_le.mpr h]
  · refine .inl ⟨h, ?_⟩
    simp [autoCheck, readWord, h, checked]

/-- The data words that a long write of `n` words of `wb` bytes at `p` reads. -/
def longPayload (s : State) (wb n p : Nat) : Payload := ⟨⟨p, n * wb⟩, wordsAt s.buf p wb n, p + n * wb⟩

/-- A long write that yields: the register has a variable-length entry, the packet is built from the data, and an
auto-checksum word is read where the kind has one and the register is Fdri. -/
theorem longWrite_ok {s : State} {wb n p : Nat} {reg : RegId} {y : Yield} (h : longWrite s wb reg n p = .ok y) :
    p + n * wb ≤ s.buf.len ∧
    ∃ e pkt, s.lookupReg reg = some e ∧ e.card = .var ∧ longBuild s e n (longPayload s wb n p) = .ok pkt ∧
      ((¬ (s.autoCrc = true ∧ e.tag = .fdri) ∧ y = longYield s e (longPayload s wb n p) pkt) ∨
        (s.autoCrc = true ∧ e.tag = .fdri ∧ p + n * wb + 4 ≤ s.buf.len ∧
          y = checked (longYield s e (longPayload s wb n p) pkt) (s.buf.read (p + n * wb) 4))) := by
  unfold longWrite at h
  rcases payload_cases s p wb n with ⟨hl, hp⟩ | ⟨-, hp⟩ <;> rw [hp] at h <;> dsimp only at h
  · refine ⟨hl, ?_⟩
    cases he : s.lookupReg reg with
    | none =>
      rw [he] at h
      cases h
    | some e =>
      rw [he] at h
      dsimp only at h
      split at h
      · refine ⟨e, ?_⟩
        split at h
        · cases h
        · rename_i hv _ pkt hb
          refine ⟨pkt, rfl, hv, hb, ?_⟩
          split at h
          · rename_i ha
            have ha : s.autoCrc = true ∧ e.tag = .fdri := by simpa using ha
            rcases autoCheck_cases s (longYield s e ⟨⟨p, n * wb⟩, wordsAt s.buf p wb n, p + n * wb⟩ pkt) with
              ⟨hq, hc⟩ | ⟨-, hc⟩ <;> rw [hc] at h
            · exact .inr ⟨ha.1, ha.2, hq, (Except.ok.inj h).symm⟩
            · cases h
          · rename_i ha
            exact .inl ⟨by simpa using ha, (Except.ok.inj h).symm⟩
      · cases h
  · cases h

theorem type2Write_ok {s : State} {n : Nat} {y : Yield} (h : type2Write s n = .ok y) :
    s.synced = true ∧ ∃ reg, s.lastRegister = some reg ∧ longWrite s 4 reg n (s.position + 4) = .ok y := by
  obtain ⟨hs, h⟩ := inMode_ok h
  refine ⟨hs, ?_⟩
  split at h
  · cases h
  · exact ⟨_, ‹_›, h⟩

/-- The register of a 16-bit long write, by its source. -/
theorem lw16Register_ok {s : State} {field reg : RegId} (h : lw16Register s field = .ok reg) :
    (s.cfg.lw16RegSource = .lastRegister ∧ s.lastRegister = some reg) ∨
    (s.cfg.lw16RegSource = .headerField ∧ reg = field ∧ (s.lookupReg field).isSome = true) := by
  unfold lw16Register at h
  split at h
  · split at h
    · cases h
    · exact .inl ⟨‹_›, by rw [‹s.lastRegister = _›, Except.ok.inj h]⟩
  · split at h
    · cases h
    · exact .inr ⟨‹_›, (Except.ok.inj h).symm, by simp [‹s.lookupReg _ = _›]⟩

theorem longWrite16_ok {s : State} {field : RegId} {y : Yield} (h : longWrite16 s field = .ok y) :
    s.synced = true ∧ ∃ reg, lw16Register s field = .ok reg ∧ s.position + 6 ≤ s.buf.len ∧
      longWrite s 2 reg (s.buf.read (s.position + 2) 4).toNat (s.position + 6) = .ok y := by
  obtain ⟨hs, h⟩ := inMode_ok h
  refine ⟨hs, ?_⟩
  split at h
  · cases h
  · rename_i reg hr
    refine ⟨reg, hr, ?_⟩
    split at h
    · cases h
    · rename_i n p hw
      obtain ⟨hl, rfl, rfl⟩ := readWord_eq_some.mp hw
      exact ⟨hl, h⟩

/-- What a BugFdri run commits. -/
def bugYield (s : State) : Yield where
  packet := .bugFdri ⟨s.position, 4 * bugFdriRun s⟩
  events := []
  after :=
    { s with
      position := s.position + 4 * bugFdriRun s
      checksum := s.absorb s.bugFdriEntry (List.replicate (bugFdriRun s) 0) }

theorem bugFdriWrite_ok {s : State} {y : Yield} (h : bugFdriWrite s = .ok y) :
    s.synced = true ∧ s.bugFdri = true ∧ y = bugYield s := by
  obtain ⟨hs, h⟩ := inMode_ok h
  split at h
  · exact ⟨hs, ‹_›, (Except.ok.inj h).symm⟩
  · cases h

/-- The configuration-data register of a table: an entry its id looks up, with the tag Fdri, and the only one (R41, R174). -/
theorem fdriEntry_eq_some {c : Config} {k : DeviceKind} {e : RegEntry} :
    c.fdriEntry k = some e ↔
      e ∈ c.regTable.get k ∧ e.tag = .fdri ∧ c.lookupReg k e.id = some e ∧
        ∀ x ∈ c.regTable.get k, x.tag = .fdri → c.lookupReg k x.id = some x → x = e := by
  have hm : ∀ x, x ∈ (c.regTable.get k).filter (fun e => e.tag == .fdri && c.lookupReg k e.id == some e) ↔
      x ∈ c.regTable.get k ∧ x.tag = .fdri ∧ c.lookupReg k x.id = some x := by
    simp
  unfold Config.fdriEntry
  split
  · rename_i hl
    rw [hl] at hm
    simp only [reduceCtorEq, false_iff]
    exact fun ⟨h1, h2, h3, _⟩ => List.not_mem_nil ((hm e).mpr ⟨h1, h2, h3⟩)
  · rename_i y rest hl
    rw [hl] at hm
    have hy := (hm y).mp List.mem_cons_self
    constructor
    · intro h
      split at h
      · rename_i ha
        obtain rfl := Option.some.inj h
        refine ⟨hy.1, hy.2.1, hy.2.2, fun x h1 h2 h3 => ?_⟩
        rcases List.mem_cons.mp ((hm x).mpr ⟨h1, h2, h3⟩) with rfl | hx
        · rfl
        · simpa using List.all_eq_true.mp ha x hx
      · cases h
    · rintro ⟨-, -, -, h⟩
      obtain rfl := h y hy.1 hy.2.1 hy.2.2
      refine if_pos (List.all_eq_true.mpr fun x hx => ?_)
      obtain ⟨h1, h2, h3⟩ := (hm x).mp (List.mem_cons_of_mem _ hx)
      simpa using h x h1 h2 h3

/-- The register of a BugFdri run is the table's Fdri entry where there is exactly one. -/
theorem bugFdriEntry_some {s : State} {e : RegEntry} (h : s.cfg.fdriEntry s.kind = some e) :
    s.bugFdriEntry = e ∧ e.tag = .fdri :=
  ⟨by simp [State.bugFdriEntry, h], (fdriEntry_eq_some.mp h).2.1⟩

/-- The run has at least the header's word and ends within the buffer. -/
theorem bugFdriRun_bounds (s : State) (h : s.position + 4 ≤ s.buf.len) :
    0 < bugFdriRun s ∧ s.position + 4 * bugFdriRun s ≤ s.buf.len := by
  have := zeroWords_le s.buf (s.position + 4) s.buf.len h
  unfold bugFdriRun
  omega

theorem widthDetectPair_ok {s : State} {y : Yield} (h : widthDetectPair s = .ok y) :
    s.synced = false ∧ s.widthDetect = true ∧ s.position + 8 ≤ s.buf.len ∧
    s.buf.read (s.position + 4) 4 = 0x11220044 ∧ y = framing s .widthDetect 8 false := by
  obtain ⟨hs, h⟩ := inMode_ok h
  split at h
  · refine ⟨hs, ‹_›, ?_⟩
    split at h
    · cases h
    · rename_i c q hw
      obtain ⟨hl, rfl, -⟩ := readWord_eq_some.mp hw
      split at h
      · exact ⟨hl, ‹_›, (Except.ok.inj h).symm⟩
      · cases h
  · cases h

theorem syncWord16_ok {s : State} {y : Yield} (h : syncWord16 s = .ok y) :
    s.synced = false ∧
    ((s.sync16Verify = true ∧ s.position + 4 ≤ s.buf.len ∧ s.buf.read (s.position + 2) 2 = 0x5566 ∧
        y = framing s .syncWord 4 true) ∨
      (s.sync16Verify = false ∧ y = framing s .syncWord 2 true)) := by
  obtain ⟨hs, h⟩ := inMode_ok h
  refine ⟨hs, ?_⟩
  split at h
  · split at h
    · cases h
    · rename_i hv _ c q hw
      obtain ⟨hl, rfl, -⟩ := readWord_eq_some.mp hw
      split at h
      · exact .inl ⟨hv, hl, ‹_›, (Except.ok.inj h).symm⟩
      · cases h
  · exact .inr ⟨by simpa using ‹¬ s.sync16Verify = true›, (Except.ok.inj h).symm⟩

/-- The event of an auto-checksum word joins the last packet of a stream. -/
theorem attachEvent_append (rs : List StepResult) (p : Packet) (o : Nat) (evs : List CrcCheck) (ev : CrcCheck) :
    attachEvent (rs ++ [.packet p o evs]) ev = rs ++ [.packet p o (evs ++ [ev])] := by
  induction rs with
  | nil => rfl
  | cons r rest ih =>
    cases rest with
    | nil => cases r <;> rfl
    | cons r' rest' =>
      simp only [List.cons_append] at ih ⊢
      simp only [attachEvent, ih]

end Sys2Proof.Machine
end

