-- ==== Sys2Proof/Laws/PerInstr.lean ====
section
/-!
SUPPORT. Facts about every instruction as syntax, one lemma per constructor: how long its encoding is, and that a row agrees
with the default tables of its kind.
-/

namespace Sys2Proof.Laws

open Sys2Proof.Machine

/-- An encoding is one 16-bit word, 4 bytes or 8 bytes: it fits into what a step reads. -/
def EncodingFits.Statement (i : Instr) : Prop :=
  (encode i).length = 2 ∨ (encode i).length = 4 ∨ (encode i).length = 8

/-- A `WRITE_` row's entry is the default table's entry of its id (R36 to R40), a `CMD_` row's command that of its code
(R146). -/
def RowMatchesItsTable.Statement (i : Instr) : Prop :=
  match i.form with
  | .write k e => findReg (defaultRegTables.get k) e.id = some e
  | .command k e => findCmd (defaultCmdTables.get k) e.code = some e.command
  | .word32 | .word16 | .type1Wide _ | .type1Narrow _ | .afterFdri => True

theorem EncodingFits.dummy32 : EncodingFits.Statement .dummy32 := .inr (.inl rfl)
theorem EncodingFits.dummy16 : EncodingFits.Statement .dummy16 := .inl rfl
theorem EncodingFits.widthDetect : EncodingFits.Statement .widthDetect := .inr (.inr rfl)
theorem EncodingFits.sync32 : EncodingFits.Statement .sync32 := .inr (.inl rfl)
theorem EncodingFits.sync16 : EncodingFits.Statement .sync16 := .inl rfl
theorem EncodingFits.nop32 : EncodingFits.Statement .nop32 := .inr (.inl rfl)
theorem EncodingFits.nop16 : EncodingFits.Statement .nop16 := .inl rfl
theorem EncodingFits.t1write32 (reg : BitVec 14) (ignored : BitVec 2) (wc : BitVec 11) : EncodingFits.Statement (.t1write32 reg ignored wc) := .inr (.inl rfl)
theorem EncodingFits.t1write16 (reg : BitVec 6) (wc : BitVec 5) : EncodingFits.Statement (.t1write16 reg wc) := .inl rfl
theorem EncodingFits.t2write (wc : BitVec 27) : EncodingFits.Statement (.t2write wc) := .inr (.inl rfl)
theorem EncodingFits.lwrite (low : BitVec 11) : EncodingFits.Statement (.lwrite low) := .inl rfl
theorem EncodingFits.bugFdri : EncodingFits.Statement .bugFdri := .inr (.inl rfl)
theorem EncodingFits.autoCrc (value : BitVec 32) : EncodingFits.Statement (.autoCrc value) := .inr (.inl rfl)
theorem EncodingFits.writeCrcVirtexOriginal (ignored : BitVec 2) (wc : BitVec 11) : EncodingFits.Statement (.writeCrcVirtexOriginal ignored wc) := .inr (.inl rfl)
theorem EncodingFits.writeFarVirtexOriginal (ignored : BitVec 2) (wc : BitVec 11) : EncodingFits.Statement (.writeFarVirtexOriginal ignored wc) := .inr (.inl rfl)
theorem EncodingFits.writeFdriVirtexOriginal (ignored : BitVec 2) (wc : BitVec 11) : EncodingFits.Statement (.writeFdriVirtexOriginal ignored wc) := .inr (.inl rfl)
theorem EncodingFits.writeCmdVirtexOriginal (ignored : BitVec 2) (wc : BitVec 11) : EncodingFits.Statement (.writeCmdVirtexOriginal ignored wc) := .inr (.inl rfl)
theorem EncodingFits.writeCtl0VirtexOriginal (ignored : BitVec 2) (wc : BitVec 11) : EncodingFits.Statement (.writeCtl0VirtexOriginal ignored wc) := .inr (.inl rfl)
theorem EncodingFits.writeMaskVirtexOriginal (ignored : BitVec 2) (wc : BitVec 11) : EncodingFits.Statement (.writeMaskVirtexOriginal ignored wc) := .inr (.inl rfl)
theorem EncodingFits.writeLoutVirtexOriginal (ignored : BitVec 2) (wc : BitVec 11) : EncodingFits.Statement (.writeLoutVirtexOriginal ignored wc) := .inr (.inl rfl)
theorem EncodingFits.writeCor0VirtexOriginal (ignored : BitVec 2) (wc : BitVec 11) : EncodingFits.Statement (.writeCor0VirtexOriginal ignored wc) := .inr (.inl rfl)
theorem EncodingFits.writeFlrVirtexOriginal (ignored : BitVec 2) (wc : BitVec 11) : EncodingFits.Statement (.writeFlrVirtexOriginal ignored wc) := .inr (.inl rfl)
theorem EncodingFits.writeCrcVirtexII (ignored : BitVec 2) (wc : BitVec 11) : EncodingFits.Statement (.writeCrcVirtexII ignored wc) := .inr (.inl rfl)
theorem EncodingFits.writeFarVirtexII (ignored : BitVec 2) (wc : BitVec 11) : EncodingFits.Statement (.writeFarVirtexII ignored wc) := .inr (.inl rfl)
theorem EncodingFits.writeFdriVirtexII (ignored : BitVec 2) (wc : BitVec 11) : EncodingFits.Statement (.writeFdriVirtexII ignored wc) := .inr (.inl rfl)
theorem EncodingFits.writeCmdVirtexII (ignored : BitVec 2) (wc : BitVec 11) : EncodingFits.Statement (.writeCmdVirtexII ignored wc) := .inr (.inl rfl)
theorem EncodingFits.writeCtl0VirtexII (ignored : BitVec 2) (wc : BitVec 11) : EncodingFits.Statement (.writeCtl0VirtexII ignored wc) := .inr (.inl rfl)
theorem EncodingFits.writeMaskVirtexII (ignored : BitVec 2) (wc : BitVec 11) : EncodingFits.Statement (.writeMaskVirtexII ignored wc) := .inr (.inl rfl)
theorem EncodingFits.writeLoutVirtexII (ignored : BitVec 2) (wc : BitVec 11) : EncodingFits.Statement (.writeLoutVirtexII ignored wc) := .inr (.inl rfl)
theorem EncodingFits.writeCor0VirtexII (ignored : BitVec 2) (wc : BitVec 11) : EncodingFits.Statement (.writeCor0VirtexII ignored wc) := .inr (.inl rfl)
theorem EncodingFits.writeMfwrVirtexII (ignored : BitVec 2) (wc : BitVec 11) : EncodingFits.Statement (.writeMfwrVirtexII ignored wc) := .inr (.inl rfl)
theorem EncodingFits.writeFlrVirtexII (ignored : BitVec 2) (wc : BitVec 11) : EncodingFits.Statement (.writeFlrVirtexII ignored wc) := .inr (.inl rfl)
theorem EncodingFits.writeKeyVirtexII (ignored : BitVec 2) (wc : BitVec 11) : EncodingFits.Statement (.writeKeyVirtexII ignored wc) := .inr (.inl rfl)
theorem EncodingFits.writeCbcVirtexII (ignored : BitVec 2) (wc : BitVec 11) : EncodingFits.Statement (.writeCbcVirtexII ignored wc) := .inr (.inl rfl)
theorem EncodingFits.writeIdcodeVirtexII (ignored : BitVec 2) (wc : BitVec 11) : EncodingFits.Statement (.writeIdcodeVirtexII ignored wc) := .inr (.inl rfl)
theorem EncodingFits.writeCrcVirtexIVPlus (ignored : BitVec 2) (wc : BitVec 11) : EncodingFits.Statement (.writeCrcVirtexIVPlus ignored wc) := .inr (.inl rfl)
theorem EncodingFits.writeFarVirtexIVPlus (ignored : BitVec 2) (wc : BitVec 11) : EncodingFits.Statement (.writeFarVirtexIVPlus ignored wc) := .inr (.inl rfl)
theorem EncodingFits.writeFdriVirtexIVPlus (ignored : BitVec 2) (wc : BitVec 11) : EncodingFits.Statement (.writeFdriVirtexIVPlus ignored wc) := .inr (.inl rfl)
theorem EncodingFits.writeCmdVirtexIVPlus (ignored : BitVec 2) (wc : BitVec 11) : EncodingFits.Statement (.writeCmdVirtexIVPlus ignored wc) := .inr (.inl rfl)
theorem EncodingFits.writeCtl0VirtexIVPlus (ignored : BitVec 2) (wc : BitVec 11) : EncodingFits.Statement (.writeCtl0VirtexIVPlus ignored wc) := .inr (.inl rfl)
theorem EncodingFits.writeMaskVirtexIVPlus (ignored : BitVec 2) (wc : BitVec 11) : EncodingFits.Statement (.writeMaskVirtexIVPlus ignored wc) := .inr (.inl rfl)
theorem EncodingFits.writeLoutVirtexIVPlus (ignored : BitVec 2) (wc : BitVec 11) : EncodingFits.Statement (.writeLoutVirtexIVPlus ignored wc) := .inr (.inl rfl)
theorem EncodingFits.writeCor0VirtexIVPlus (ignored : BitVec 2) (wc : BitVec 11) : EncodingFits.Statement (.writeCor0VirtexIVPlus ignored wc) := .inr (.inl rfl)
theorem EncodingFits.writeMfwrVirtexIVPlus (ignored : BitVec 2) (wc : BitVec 11) : EncodingFits.Statement (.writeMfwrVirtexIVPlus ignored wc) := .inr (.inl rfl)
theorem EncodingFits.writeCbcVirtexIVPlus (ignored : BitVec 2) (wc : BitVec 11) : EncodingFits.Statement (.writeCbcVirtexIVPlus ignored wc) := .inr (.inl rfl)
theorem EncodingFits.writeIdcodeVirtexIVPlus (ignored : BitVec 2) (wc : BitVec 11) : EncodingFits.Statement (.writeIdcodeVirtexIVPlus ignored wc) := .inr (.inl rfl)
theorem EncodingFits.writeAxssVirtexIVPlus (ignored : BitVec 2) (wc : BitVec 11) : EncodingFits.Statement (.writeAxssVirtexIVPlus ignored wc) := .inr (.inl rfl)
theorem EncodingFits.writeCor1VirtexIVPlus (ignored : BitVec 2) (wc : BitVec 11) : EncodingFits.Statement (.writeCor1VirtexIVPlus ignored wc) := .inr (.inl rfl)
theorem EncodingFits.writeCsobVirtexIVPlus (ignored : BitVec 2) (wc : BitVec 11) : EncodingFits.Statement (.writeCsobVirtexIVPlus ignored wc) := .inr (.inl rfl)
theorem EncodingFits.writeWbstarVirtexIVPlus (ignored : BitVec 2) (wc : BitVec 11) : EncodingFits.Statement (.writeWbstarVirtexIVPlus ignored wc) := .inr (.inl rfl)
theorem EncodingFits.writeTimerVirtexIVPlus (ignored : BitVec 2) (wc : BitVec 11) : EncodingFits.Statement (.writeTimerVirtexIVPlus ignored wc) := .inr (.inl rfl)
theorem EncodingFits.writeRbcrcSwVirtexIVPlus (ignored : BitVec 2) (wc : BitVec 11) : EncodingFits.Statement (.writeRbcrcSwVirtexIVPlus ignored wc) := .inr (.inl rfl)
theorem EncodingFits.writeCtl1VirtexIVPlus (ignored : BitVec 2) (wc : BitVec 11) : EncodingFits.Statement (.writeCtl1VirtexIVPlus ignored wc) := .inr (.inl rfl)
theorem EncodingFits.writeBspiVirtexIVPlus (ignored : BitVec 2) (wc : BitVec 11) : EncodingFits.Statement (.writeBspiVirtexIVPlus ignored wc) := .inr (.inl rfl)
theorem EncodingFits.writeCrcSpartan3A (wc : BitVec 5) : EncodingFits.Statement (.writeCrcSpartan3A wc) := .inl rfl
theorem EncodingFits.writeFarMajSpartan3A (wc : BitVec 5) : EncodingFits.Statement (.writeFarMajSpartan3A wc) := .inl rfl
theorem EncodingFits.writeFarMinSpartan3A (wc : BitVec 5) : EncodingFits.Statement (.writeFarMinSpartan3A wc) := .inl rfl
theorem EncodingFits.writeFdriSpartan3A (wc : BitVec 5) : EncodingFits.Statement (.writeFdriSpartan3A wc) := .inl rfl
theorem EncodingFits.writeCmdSpartan3A (wc : BitVec 5) : EncodingFits.Statement (.writeCmdSpartan3A wc) := .inl rfl
theorem EncodingFits.writeCtl0Spartan3A (wc : BitVec 5) : EncodingFits.Statement (.writeCtl0Spartan3A wc) := .inl rfl
theorem EncodingFits.writeMaskSpartan3A (wc : BitVec 5) : EncodingFits.Statement (.writeMaskSpartan3A wc) := .inl rfl
theorem EncodingFits.writeLoutSpartan3A (wc : BitVec 5) : EncodingFits.Statement (.writeLoutSpartan3A wc) := .inl rfl
theorem EncodingFits.writeCor1Spartan3A (wc : BitVec 5) : EncodingFits.Statement (.writeCor1Spartan3A wc) := .inl rfl
theorem EncodingFits.writeCor2Spartan3A (wc : BitVec 5) : EncodingFits.Statement (.writeCor2Spartan3A wc) := .inl rfl
theorem EncodingFits.writePwrdnSpartan3A (wc : BitVec 5) : EncodingFits.Statement (.writePwrdnSpartan3A wc) := .inl rfl
theorem EncodingFits.writeFlrSpartan3A (wc : BitVec 5) : EncodingFits.Statement (.writeFlrSpartan3A wc) := .inl rfl
theorem EncodingFits.writeIdcodeSpartan3A (wc : BitVec 5) : EncodingFits.Statement (.writeIdcodeSpartan3A wc) := .inl rfl
theorem EncodingFits.writeSnowplowSpartan3A (wc : BitVec 5) : EncodingFits.Statement (.writeSnowplowSpartan3A wc) := .inl rfl
theorem EncodingFits.writeHcOptSpartan3A (wc : BitVec 5) : EncodingFits.Statement (.writeHcOptSpartan3A wc) := .inl rfl
theorem EncodingFits.writeCsboSpartan3A (wc : BitVec 5) : EncodingFits.Statement (.writeCsboSpartan3A wc) := .inl rfl
theorem EncodingFits.writeGeneral1Spartan3A (wc : BitVec 5) : EncodingFits.Statement (.writeGeneral1Spartan3A wc) := .inl rfl
theorem EncodingFits.writeGeneral2Spartan3A (wc : BitVec 5) : EncodingFits.Statement (.writeGeneral2Spartan3A wc) := .inl rfl
theorem EncodingFits.writeModeSpartan3A (wc : BitVec 5) : EncodingFits.Statement (.writeModeSpartan3A wc) := .inl rfl
theorem EncodingFits.writePuGweSpartan3A (wc : BitVec 5) : EncodingFits.Statement (.writePuGweSpartan3A wc) := .inl rfl
theorem EncodingFits.writePuGtsSpartan3A (wc : BitVec 5) : EncodingFits.Statement (.writePuGtsSpartan3A wc) := .inl rfl
theorem EncodingFits.writeMfwrSpartan3A (wc : BitVec 5) : EncodingFits.Statement (.writeMfwrSpartan3A wc) := .inl rfl
theorem EncodingFits.writeCclkFreqSpartan3A (wc : BitVec 5) : EncodingFits.Statement (.writeCclkFreqSpartan3A wc) := .inl rfl
theorem EncodingFits.writeSeuOptSpartan3A (wc : BitVec 5) : EncodingFits.Statement (.writeSeuOptSpartan3A wc) := .inl rfl
theorem EncodingFits.writeExpSignSpartan3A (wc : BitVec 5) : EncodingFits.Statement (.writeExpSignSpartan3A wc) := .inl rfl
theorem EncodingFits.writeRdbkSignSpartan3A (wc : BitVec 5) : EncodingFits.Statement (.writeRdbkSignSpartan3A wc) := .inl rfl
theorem EncodingFits.writeCrcSpartan6 (wc : BitVec 5) : EncodingFits.Statement (.writeCrcSpartan6 wc) := .inl rfl
theorem EncodingFits.writeFarMajSpartan6 (wc : BitVec 5) : EncodingFits.Statement (.writeFarMajSpartan6 wc) := .inl rfl
theorem EncodingFits.writeFarMinSpartan6 (wc : BitVec 5) : EncodingFits.Statement (.writeFarMinSpartan6 wc) := .inl rfl
theorem EncodingFits.writeFdriSpartan6 (wc : BitVec 5) : EncodingFits.Statement (.writeFdriSpartan6 wc) := .inl rfl
theorem EncodingFits.writeCmdSpartan6 (wc : BitVec 5) : EncodingFits.Statement (.writeCmdSpartan6 wc) := .inl rfl
theorem EncodingFits.writeCtl0Spartan6 (wc : BitVec 5) : EncodingFits.Statement (.writeCtl0Spartan6 wc) := .inl rfl
theorem EncodingFits.writeMaskSpartan6 (wc : BitVec 5) : EncodingFits.Statement (.writeMaskSpartan6 wc) := .inl rfl
theorem EncodingFits.writeLoutSpartan6 (wc : BitVec 5) : EncodingFits.Statement (.writeLoutSpartan6 wc) := .inl rfl
theorem EncodingFits.writeCor1Spartan6 (wc : BitVec 5) : EncodingFits.Statement (.writeCor1Spartan6 wc) := .inl rfl
theorem EncodingFits.writeCor2Spartan6 (wc : BitVec 5) : EncodingFits.Statement (.writeCor2Spartan6 wc) := .inl rfl
theorem EncodingFits.writePwrdnSpartan6 (wc : BitVec 5) : EncodingFits.Statement (.writePwrdnSpartan6 wc) := .inl rfl
theorem EncodingFits.writeFlrSpartan6 (wc : BitVec 5) : EncodingFits.Statement (.writeFlrSpartan6 wc) := .inl rfl
theorem EncodingFits.writeIdcodeSpartan6 (wc : BitVec 5) : EncodingFits.Statement (.writeIdcodeSpartan6 wc) := .inl rfl
theorem EncodingFits.writeCwdtSpartan6 (wc : BitVec 5) : EncodingFits.Statement (.writeCwdtSpartan6 wc) := .inl rfl
theorem EncodingFits.writeHcOptSpartan6 (wc : BitVec 5) : EncodingFits.Statement (.writeHcOptSpartan6 wc) := .inl rfl
theorem EncodingFits.writeCsboSpartan6 (wc : BitVec 5) : EncodingFits.Statement (.writeCsboSpartan6 wc) := .inl rfl
theorem EncodingFits.writeGeneral1Spartan6 (wc : BitVec 5) : EncodingFits.Statement (.writeGeneral1Spartan6 wc) := .inl rfl
theorem EncodingFits.writeGeneral2Spartan6 (wc : BitVec 5) : EncodingFits.Statement (.writeGeneral2Spartan6 wc) := .inl rfl
theorem EncodingFits.writeGeneral3Spartan6 (wc : BitVec 5) : EncodingFits.Statement (.writeGeneral3Spartan6 wc) := .inl rfl
theorem EncodingFits.writeGeneral4Spartan6 (wc : BitVec 5) : EncodingFits.Statement (.writeGeneral4Spartan6 wc) := .inl rfl
theorem EncodingFits.writeGeneral5Spartan6 (wc : BitVec 5) : EncodingFits.Statement (.writeGeneral5Spartan6 wc) := .inl rfl
theorem EncodingFits.writeModeSpartan6 (wc : BitVec 5) : EncodingFits.Statement (.writeModeSpartan6 wc) := .inl rfl
theorem EncodingFits.writePuGweSpartan6 (wc : BitVec 5) : EncodingFits.Statement (.writePuGweSpartan6 wc) := .inl rfl
theorem EncodingFits.writePuGtsSpartan6 (wc : BitVec 5) : EncodingFits.Statement (.writePuGtsSpartan6 wc) := .inl rfl
theorem EncodingFits.writeMfwrSpartan6 (wc : BitVec 5) : EncodingFits.Statement (.writeMfwrSpartan6 wc) := .inl rfl
theorem EncodingFits.writeCclkFreqSpartan6 (wc : BitVec 5) : EncodingFits.Statement (.writeCclkFreqSpartan6 wc) := .inl rfl
theorem EncodingFits.writeSeuOptSpartan6 (wc : BitVec 5) : EncodingFits.Statement (.writeSeuOptSpartan6 wc) := .inl rfl
theorem EncodingFits.writeExpSignSpartan6 (wc : BitVec 5) : EncodingFits.Statement (.writeExpSignSpartan6 wc) := .inl rfl
theorem EncodingFits.writeRdbkSignSpartan6 (wc : BitVec 5) : EncodingFits.Statement (.writeRdbkSignSpartan6 wc) := .inl rfl
theorem EncodingFits.writeEyeMaskSpartan6 (wc : BitVec 5) : EncodingFits.Statement (.writeEyeMaskSpartan6 wc) := .inl rfl
theorem EncodingFits.writeCbcRegSpartan6 (wc : BitVec 5) : EncodingFits.Statement (.writeCbcRegSpartan6 wc) := .inl rfl
theorem EncodingFits.cmdNullVirtexOriginal (ignored : BitVec 2) : EncodingFits.Statement (.cmdNullVirtexOriginal ignored) := .inr (.inr rfl)
theorem EncodingFits.cmdWcfgVirtexOriginal (ignored : BitVec 2) : EncodingFits.Statement (.cmdWcfgVirtexOriginal ignored) := .inr (.inr rfl)
theorem EncodingFits.cmdLfrmVirtexOriginal (ignored : BitVec 2) : EncodingFits.Statement (.cmdLfrmVirtexOriginal ignored) := .inr (.inr rfl)
theorem EncodingFits.cmdRcfgVirtexOriginal (ignored : BitVec 2) : EncodingFits.Statement (.cmdRcfgVirtexOriginal ignored) := .inr (.inr rfl)
theorem EncodingFits.cmdStartVirtexOriginal (ignored : BitVec 2) : EncodingFits.Statement (.cmdStartVirtexOriginal ignored) := .inr (.inr rfl)
theorem EncodingFits.cmdRcapVirtexOriginal (ignored : BitVec 2) : EncodingFits.Statement (.cmdRcapVirtexOriginal ignored) := .inr (.inr rfl)
theorem EncodingFits.cmdRcrcVirtexOriginal (ignored : BitVec 2) : EncodingFits.Statement (.cmdRcrcVirtexOriginal ignored) := .inr (.inr rfl)
theorem EncodingFits.cmdAghighVirtexOriginal (ignored : BitVec 2) : EncodingFits.Statement (.cmdAghighVirtexOriginal ignored) := .inr (.inr rfl)
theorem EncodingFits.cmdSwitchVirtexOriginal (ignored : BitVec 2) : EncodingFits.Statement (.cmdSwitchVirtexOriginal ignored) := .inr (.inr rfl)
theorem EncodingFits.cmdNullVirtexII (ignored : BitVec 2) : EncodingFits.Statement (.cmdNullVirtexII ignored) := .inr (.inr rfl)
theorem EncodingFits.cmdWcfgVirtexII (ignored : BitVec 2) : EncodingFits.Statement (.cmdWcfgVirtexII ignored) := .inr (.inr rfl)
theorem EncodingFits.cmdMfwrVirtexII (ignored : BitVec 2) : EncodingFits.Statement (.cmdMfwrVirtexII ignored) := .inr (.inr rfl)
theorem EncodingFits.cmdLfrmVirtexII (ignored : BitVec 2) : EncodingFits.Statement (.cmdLfrmVirtexII ignored) := .inr (.inr rfl)
theorem EncodingFits.cmdRcfgVirtexII (ignored : BitVec 2) : EncodingFits.Statement (.cmdRcfgVirtexII ignored) := .inr (.inr rfl)
theorem EncodingFits.cmdStartVirtexII (ignored : BitVec 2) : EncodingFits.Statement (.cmdStartVirtexII ignored) := .inr (.inr rfl)
theorem EncodingFits.cmdRcapVirtexII (ignored : BitVec 2) : EncodingFits.Statement (.cmdRcapVirtexII ignored) := .inr (.inr rfl)
theorem EncodingFits.cmdRcrcVirtexII (ignored : BitVec 2) : EncodingFits.Statement (.cmdRcrcVirtexII ignored) := .inr (.inr rfl)
theorem EncodingFits.cmdAghighVirtexII (ignored : BitVec 2) : EncodingFits.Statement (.cmdAghighVirtexII ignored) := .inr (.inr rfl)
theorem EncodingFits.cmdSwitchVirtexII (ignored : BitVec 2) : EncodingFits.Statement (.cmdSwitchVirtexII ignored) := .inr (.inr rfl)
theorem EncodingFits.cmdGrestoreVirtexII (ignored : BitVec 2) : EncodingFits.Statement (.cmdGrestoreVirtexII ignored) := .inr (.inr rfl)
theorem EncodingFits.cmdShutdownVirtexII (ignored : BitVec 2) : EncodingFits.Statement (.cmdShutdownVirtexII ignored) := .inr (.inr rfl)
theorem EncodingFits.cmdGcaptureVirtexII (ignored : BitVec 2) : EncodingFits.Statement (.cmdGcaptureVirtexII ignored) := .inr (.inr rfl)
theorem EncodingFits.cmdDesynchVirtexII (ignored : BitVec 2) : EncodingFits.Statement (.cmdDesynchVirtexII ignored) := .inr (.inr rfl)
theorem EncodingFits.cmdNullVirtexIVPlus (ignored : BitVec 2) : EncodingFits.Statement (.cmdNullVirtexIVPlus ignored) := .inr (.inr rfl)
theorem EncodingFits.cmdWcfgVirtexIVPlus (ignored : BitVec 2) : EncodingFits.Statement (.cmdWcfgVirtexIVPlus ignored) := .inr (.inr rfl)
theorem EncodingFits.cmdMfwrVirtexIVPlus (ignored : BitVec 2) : EncodingFits.Statement (.cmdMfwrVirtexIVPlus ignored) := .inr (.inr rfl)
theorem EncodingFits.cmdLfrmVirtexIVPlus (ignored : BitVec 2) : EncodingFits.Statement (.cmdLfrmVirtexIVPlus ignored) := .inr (.inr rfl)
theorem EncodingFits.cmdRcfgVirtexIVPlus (ignored : BitVec 2) : EncodingFits.Statement (.cmdRcfgVirtexIVPlus ignored) := .inr (.inr rfl)
theorem EncodingFits.cmdStartVirtexIVPlus (ignored : BitVec 2) : EncodingFits.Statement (.cmdStartVirtexIVPlus ignored) := .inr (.inr rfl)
theorem EncodingFits.cmdRcapVirtexIVPlus (ignored : BitVec 2) : EncodingFits.Statement (.cmdRcapVirtexIVPlus ignored) := .inr (.inr rfl)
theorem EncodingFits.cmdRcrcVirtexIVPlus (ignored : BitVec 2) : EncodingFits.Statement (.cmdRcrcVirtexIVPlus ignored) := .inr (.inr rfl)
theorem EncodingFits.cmdAghighVirtexIVPlus (ignored : BitVec 2) : EncodingFits.Statement (.cmdAghighVirtexIVPlus ignored) := .inr (.inr rfl)
theorem EncodingFits.cmdSwitchVirtexIVPlus (ignored : BitVec 2) : EncodingFits.Statement (.cmdSwitchVirtexIVPlus ignored) := .inr (.inr rfl)
theorem EncodingFits.cmdGrestoreVirtexIVPlus (ignored : BitVec 2) : EncodingFits.Statement (.cmdGrestoreVirtexIVPlus ignored) := .inr (.inr rfl)
theorem EncodingFits.cmdShutdownVirtexIVPlus (ignored : BitVec 2) : EncodingFits.Statement (.cmdShutdownVirtexIVPlus ignored) := .inr (.inr rfl)
theorem EncodingFits.cmdGcaptureVirtexIVPlus (ignored : BitVec 2) : EncodingFits.Statement (.cmdGcaptureVirtexIVPlus ignored) := .inr (.inr rfl)
theorem EncodingFits.cmdDesynchVirtexIVPlus (ignored : BitVec 2) : EncodingFits.Statement (.cmdDesynchVirtexIVPlus ignored) := .inr (.inr rfl)
theorem EncodingFits.cmdIprogVirtexIVPlus (ignored : BitVec 2) : EncodingFits.Statement (.cmdIprogVirtexIVPlus ignored) := .inr (.inr rfl)
theorem EncodingFits.cmdCrccVirtexIVPlus (ignored : BitVec 2) : EncodingFits.Statement (.cmdCrccVirtexIVPlus ignored) := .inr (.inr rfl)
theorem EncodingFits.cmdLtimerVirtexIVPlus (ignored : BitVec 2) : EncodingFits.Statement (.cmdLtimerVirtexIVPlus ignored) := .inr (.inr rfl)
theorem EncodingFits.cmdBspiReadVirtexIVPlus (ignored : BitVec 2) : EncodingFits.Statement (.cmdBspiReadVirtexIVPlus ignored) := .inr (.inr rfl)
theorem EncodingFits.cmdFallEdgeVirtexIVPlus (ignored : BitVec 2) : EncodingFits.Statement (.cmdFallEdgeVirtexIVPlus ignored) := .inr (.inr rfl)
theorem EncodingFits.cmdNullSpartan3A : EncodingFits.Statement .cmdNullSpartan3A := .inr (.inl rfl)
theorem EncodingFits.cmdWcfgSpartan3A : EncodingFits.Statement .cmdWcfgSpartan3A := .inr (.inl rfl)
theorem EncodingFits.cmdMfwrSpartan3A : EncodingFits.Statement .cmdMfwrSpartan3A := .inr (.inl rfl)
theorem EncodingFits.cmdLfrmSpartan3A : EncodingFits.Statement .cmdLfrmSpartan3A := .inr (.inl rfl)
theorem EncodingFits.cmdRcfgSpartan3A : EncodingFits.Statement .cmdRcfgSpartan3A := .inr (.inl rfl)
theorem EncodingFits.cmdStartSpartan3A : EncodingFits.Statement .cmdStartSpartan3A := .inr (.inl rfl)
theorem EncodingFits.cmdRcrcSpartan3A : EncodingFits.Statement .cmdRcrcSpartan3A := .inr (.inl rfl)
theorem EncodingFits.cmdAghighSpartan3A : EncodingFits.Statement .cmdAghighSpartan3A := .inr (.inl rfl)
theorem EncodingFits.cmdGrestoreSpartan3A : EncodingFits.Statement .cmdGrestoreSpartan3A := .inr (.inl rfl)
theorem EncodingFits.cmdShutdownSpartan3A : EncodingFits.Statement .cmdShutdownSpartan3A := .inr (.inl rfl)
theorem EncodingFits.cmdDesynchSpartan3A : EncodingFits.Statement .cmdDesynchSpartan3A := .inr (.inl rfl)
theorem EncodingFits.cmdIprogSpartan3A : EncodingFits.Statement .cmdIprogSpartan3A := .inr (.inl rfl)
theorem EncodingFits.cmdNullSpartan6 : EncodingFits.Statement .cmdNullSpartan6 := .inr (.inl rfl)
theorem EncodingFits.cmdWcfgSpartan6 : EncodingFits.Statement .cmdWcfgSpartan6 := .inr (.inl rfl)
theorem EncodingFits.cmdMfwrSpartan6 : EncodingFits.Statement .cmdMfwrSpartan6 := .inr (.inl rfl)
theorem EncodingFits.cmdLfrmSpartan6 : EncodingFits.Statement .cmdLfrmSpartan6 := .inr (.inl rfl)
theorem EncodingFits.cmdRcfgSpartan6 : EncodingFits.Statement .cmdRcfgSpartan6 := .inr (.inl rfl)
theorem EncodingFits.cmdStartSpartan6 : EncodingFits.Statement .cmdStartSpartan6 := .inr (.inl rfl)
theorem EncodingFits.cmdRcrcSpartan6 : EncodingFits.Statement .cmdRcrcSpartan6 := .inr (.inl rfl)
theorem EncodingFits.cmdAghighSpartan6 : EncodingFits.Statement .cmdAghighSpartan6 := .inr (.inl rfl)
theorem EncodingFits.cmdGrestoreSpartan6 : EncodingFits.Statement .cmdGrestoreSpartan6 := .inr (.inl rfl)
theorem EncodingFits.cmdShutdownSpartan6 : EncodingFits.Statement .cmdShutdownSpartan6 := .inr (.inl rfl)
theorem EncodingFits.cmdDesynchSpartan6 : EncodingFits.Statement .cmdDesynchSpartan6 := .inr (.inl rfl)
theorem EncodingFits.cmdIprogSpartan6 : EncodingFits.Statement .cmdIprogSpartan6 := .inr (.inl rfl)

theorem RowMatchesItsTable.dummy32 : RowMatchesItsTable.Statement .dummy32 := trivial
theorem RowMatchesItsTable.dummy16 : RowMatchesItsTable.Statement .dummy16 := trivial
theorem RowMatchesItsTable.widthDetect : RowMatchesItsTable.Statement .widthDetect := trivial
theorem RowMatchesItsTable.sync32 : RowMatchesItsTable.Statement .sync32 := trivial
theorem RowMatchesItsTable.sync16 : RowMatchesItsTable.Statement .sync16 := trivial
theorem RowMatchesItsTable.nop32 : RowMatchesItsTable.Statement .nop32 := trivial
theorem RowMatchesItsTable.nop16 : RowMatchesItsTable.Statement .nop16 := trivial
theorem RowMatchesItsTable.t1write32 (reg : BitVec 14) (ignored : BitVec 2) (wc : BitVec 11) : RowMatchesItsTable.Statement (.t1write32 reg ignored wc) := trivial
theorem RowMatchesItsTable.t1write16 (reg : BitVec 6) (wc : BitVec 5) : RowMatchesItsTable.Statement (.t1write16 reg wc) := trivial
theorem RowMatchesItsTable.t2write (wc : BitVec 27) : RowMatchesItsTable.Statement (.t2write wc) := trivial
theorem RowMatchesItsTable.lwrite (low : BitVec 11) : RowMatchesItsTable.Statement (.lwrite low) := trivial
theorem RowMatchesItsTable.bugFdri : RowMatchesItsTable.Statement .bugFdri := trivial
theorem RowMatchesItsTable.autoCrc (value : BitVec 32) : RowMatchesItsTable.Statement (.autoCrc value) := trivial
theorem RowMatchesItsTable.writeCrcVirtexOriginal (ignored : BitVec 2) (wc : BitVec 11) : RowMatchesItsTable.Statement (.writeCrcVirtexOriginal ignored wc) := rfl
theorem RowMatchesItsTable.writeFarVirtexOriginal (ignored : BitVec 2) (wc : BitVec 11) : RowMatchesItsTable.Statement (.writeFarVirtexOriginal ignored wc) := rfl
theorem RowMatchesItsTable.writeFdriVirtexOriginal (ignored : BitVec 2) (wc : BitVec 11) : RowMatchesItsTable.Statement (.writeFdriVirtexOriginal ignored wc) := rfl
theorem RowMatchesItsTable.writeCmdVirtexOriginal (ignored : BitVec 2) (wc : BitVec 11) : RowMatchesItsTable.Statement (.writeCmdVirtexOriginal ignored wc) := rfl
theorem RowMatchesItsTable.writeCtl0VirtexOriginal (ignored : BitVec 2) (wc : BitVec 11) : RowMatchesItsTable.Statement (.writeCtl0VirtexOriginal ignored wc) := rfl
theorem RowMatchesItsTable.writeMaskVirtexOriginal (ignored : BitVec 2) (wc : BitVec 11) : RowMatchesItsTable.Statement (.writeMaskVirtexOriginal ignored wc) := rfl
theorem RowMatchesItsTable.writeLoutVirtexOriginal (ignored : BitVec 2) (wc : BitVec 11) : RowMatchesItsTable.Statement (.writeLoutVirtexOriginal ignored wc) := rfl
theorem RowMatchesItsTable.writeCor0VirtexOriginal (ignored : BitVec 2) (wc : BitVec 11) : RowMatchesItsTable.Statement (.writeCor0VirtexOriginal ignored wc) := rfl
theorem RowMatchesItsTable.writeFlrVirtexOriginal (ignored : BitVec 2) (wc : BitVec 11) : RowMatchesItsTable.Statement (.writeFlrVirtexOriginal ignored wc) := rfl
theorem RowMatchesItsTable.writeCrcVirtexII (ignored : BitVec 2) (wc : BitVec 11) : RowMatchesItsTable.Statement (.writeCrcVirtexII ignored wc) := rfl
theorem RowMatchesItsTable.writeFarVirtexII (ignored : BitVec 2) (wc : BitVec 11) : RowMatchesItsTable.Statement (.writeFarVirtexII ignored wc) := rfl
theorem RowMatchesItsTable.writeFdriVirtexII (ignored : BitVec 2) (wc : BitVec 11) : RowMatchesItsTable.Statement (.writeFdriVirtexII ignored wc) := rfl
theorem RowMatchesItsTable.writeCmdVirtexII (ignored : BitVec 2) (wc : BitVec 11) : RowMatchesItsTable.Statement (.writeCmdVirtexII ignored wc) := rfl
theorem RowMatchesItsTable.writeCtl0VirtexII (ignored : BitVec 2) (wc : BitVec 11) : RowMatchesItsTable.Statement (.writeCtl0VirtexII ignored wc) := rfl
theorem RowMatchesItsTable.writeMaskVirtexII (ignored : BitVec 2) (wc : BitVec 11) : RowMatchesItsTable.Statement (.writeMaskVirtexII ignored wc) := rfl
theorem RowMatchesItsTable.writeLoutVirtexII (ignored : BitVec 2) (wc : BitVec 11) : RowMatchesItsTable.Statement (.writeLoutVirtexII ignored wc) := rfl
theorem RowMatchesItsTable.writeCor0VirtexII (ignored : BitVec 2) (wc : BitVec 11) : RowMatchesItsTable.Statement (.writeCor0VirtexII ignored wc) := rfl
theorem RowMatchesItsTable.writeMfwrVirtexII (ignored : BitVec 2) (wc : BitVec 11) : RowMatchesItsTable.Statement (.writeMfwrVirtexII ignored wc) := rfl
theorem RowMatchesItsTable.writeFlrVirtexII (ignored : BitVec 2) (wc : BitVec 11) : RowMatchesItsTable.Statement (.writeFlrVirtexII ignored wc) := rfl
theorem RowMatchesItsTable.writeKeyVirtexII (ignored : BitVec 2) (wc : BitVec 11) : RowMatchesItsTable.Statement (.writeKeyVirtexII ignored wc) := rfl
theorem RowMatchesItsTable.writeCbcVirtexII (ignored : BitVec 2) (wc : BitVec 11) : RowMatchesItsTable.Statement (.writeCbcVirtexII ignored wc) := rfl
theorem RowMatchesItsTable.writeIdcodeVirtexII (ignored : BitVec 2) (wc : BitVec 11) : RowMatchesItsTable.Statement (.writeIdcodeVirtexII ignored wc) := rfl
theorem RowMatchesItsTable.writeCrcVirtexIVPlus (ignored : BitVec 2) (wc : BitVec 11) : RowMatchesItsTable.Statement (.writeCrcVirtexIVPlus ignored wc) := rfl
theorem RowMatchesItsTable.writeFarVirtexIVPlus (ignored : BitVec 2) (wc : BitVec 11) : RowMatchesItsTable.Statement (.writeFarVirtexIVPlus ignored wc) := rfl
theorem RowMatchesItsTable.writeFdriVirtexIVPlus (ignored : BitVec 2) (wc : BitVec 11) : RowMatchesItsTable.Statement (.writeFdriVirtexIVPlus ignored wc) := rfl
theorem RowMatchesItsTable.writeCmdVirtexIVPlus (ignored : BitVec 2) (wc : BitVec 11) : RowMatchesItsTable.Statement (.writeCmdVirtexIVPlus ignored wc) := rfl
theorem RowMatchesItsTable.writeCtl0VirtexIVPlus (ignored : BitVec 2) (wc : BitVec 11) : RowMatchesItsTable.Statement (.writeCtl0VirtexIVPlus ignored wc) := rfl
theorem RowMatchesItsTable.writeMaskVirtexIVPlus (ignored : BitVec 2) (wc : BitVec 11) : RowMatchesItsTable.Statement (.writeMaskVirtexIVPlus ignored wc) := rfl
theorem RowMatchesItsTable.writeLoutVirtexIVPlus (ignored : BitVec 2) (wc : BitVec 11) : RowMatchesItsTable.Statement (.writeLoutVirtexIVPlus ignored wc) := rfl
theorem RowMatchesItsTable.writeCor0VirtexIVPlus (ignored : BitVec 2) (wc : BitVec 11) : RowMatchesItsTable.Statement (.writeCor0VirtexIVPlus ignored wc) := rfl
theorem RowMatchesItsTable.writeMfwrVirtexIVPlus (ignored : BitVec 2) (wc : BitVec 11) : RowMatchesItsTable.Statement (.writeMfwrVirtexIVPlus ignored wc) := rfl
theorem RowMatchesItsTable.writeCbcVirtexIVPlus (ignored : BitVec 2) (wc : BitVec 11) : RowMatchesItsTable.Statement (.writeCbcVirtexIVPlus ignored wc) := rfl
theorem RowMatchesItsTable.writeIdcodeVirtexIVPlus (ignored : BitVec 2) (wc : BitVec 11) : RowMatchesItsTable.Statement (.writeIdcodeVirtexIVPlus ignored wc) := rfl
theorem RowMatchesItsTable.writeAxssVirtexIVPlus (ignored : BitVec 2) (wc : BitVec 11) : RowMatchesItsTable.Statement (.writeAxssVirtexIVPlus ignored wc) := rfl
theorem RowMatchesItsTable.writeCor1VirtexIVPlus (ignored : BitVec 2) (wc : BitVec 11) : RowMatchesItsTable.Statement (.writeCor1VirtexIVPlus ignored wc) := rfl
theorem RowMatchesItsTable.writeCsobVirtexIVPlus (ignored : BitVec 2) (wc : BitVec 11) : RowMatchesItsTable.Statement (.writeCsobVirtexIVPlus ignored wc) := rfl
theorem RowMatchesItsTable.writeWbstarVirtexIVPlus (ignored : BitVec 2) (wc : BitVec 11) : RowMatchesItsTable.Statement (.writeWbstarVirtexIVPlus ignored wc) := rfl
theorem RowMatchesItsTable.writeTimerVirtexIVPlus (ignored : BitVec 2) (wc : BitVec 11) : RowMatchesItsTable.Statement (.writeTimerVirtexIVPlus ignored wc) := rfl
theorem RowMatchesItsTable.writeRbcrcSwVirtexIVPlus (ignored : BitVec 2) (wc : BitVec 11) : RowMatchesItsTable.Statement (.writeRbcrcSwVirtexIVPlus ignored wc) := rfl
theorem RowMatchesItsTable.writeCtl1VirtexIVPlus (ignored : BitVec 2) (wc : BitVec 11) : RowMatchesItsTable.Statement (.writeCtl1VirtexIVPlus ignored wc) := rfl
theorem RowMatchesItsTable.writeBspiVirtexIVPlus (ignored : BitVec 2) (wc : BitVec 11) : RowMatchesItsTable.Statement (.writeBspiVirtexIVPlus ignored wc) := rfl
theorem RowMatchesItsTable.writeCrcSpartan3A (wc : BitVec 5) : RowMatchesItsTable.Statement (.writeCrcSpartan3A wc) := rfl
theorem RowMatchesItsTable.writeFarMajSpartan3A (wc : BitVec 5) : RowMatchesItsTable.Statement (.writeFarMajSpartan3A wc) := rfl
theorem RowMatchesItsTable.writeFarMinSpartan3A (wc : BitVec 5) : RowMatchesItsTable.Statement (.writeFarMinSpartan3A wc) := rfl
theorem RowMatchesItsTable.writeFdriSpartan3A (wc : BitVec 5) : RowMatchesItsTable.Statement (.writeFdriSpartan3A wc) := rfl
theorem RowMatchesItsTable.writeCmdSpartan3A (wc : BitVec 5) : RowMatchesItsTable.Statement (.writeCmdSpartan3A wc) := rfl
theorem RowMatchesItsTable.writeCtl0Spartan3A (wc : BitVec 5) : RowMatchesItsTable.Statement (.writeCtl0Spartan3A wc) := rfl
theorem RowMatchesItsTable.writeMaskSpartan3A (wc : BitVec 5) : RowMatchesItsTable.Statement (.writeMaskSpartan3A wc) := rfl
theorem RowMatchesItsTable.writeLoutSpartan3A (wc : BitVec 5) : RowMatchesItsTable.Statement (.writeLoutSpartan3A wc) := rfl
theorem RowMatchesItsTable.writeCor1Spartan3A (wc : BitVec 5) : RowMatchesItsTable.Statement (.writeCor1Spartan3A wc) := rfl
theorem RowMatchesItsTable.writeCor2Spartan3A (wc : BitVec 5) : RowMatchesItsTable.Statement (.writeCor2Spartan3A wc) := rfl
theorem RowMatchesItsTable.writePwrdnSpartan3A (wc : BitVec 5) : RowMatchesItsTable.Statement (.writePwrdnSpartan3A wc) := rfl
theorem RowMatchesItsTable.writeFlrSpartan3A (wc : BitVec 5) : RowMatchesItsTable.Statement (.writeFlrSpartan3A wc) := rfl
theorem RowMatchesItsTable.writeIdcodeSpartan3A (wc : BitVec 5) : RowMatchesItsTable.Statement (.writeIdcodeSpartan3A wc) := rfl
theorem RowMatchesItsTable.writeSnowplowSpartan3A (wc : BitVec 5) : RowMatchesItsTable.Statement (.writeSnowplowSpartan3A wc) := rfl
theorem RowMatchesItsTable.writeHcOptSpartan3A (wc : BitVec 5) : RowMatchesItsTable.Statement (.writeHcOptSpartan3A wc) := rfl
theorem RowMatchesItsTable.writeCsboSpartan3A (wc : BitVec 5) : RowMatchesItsTable.Statement (.writeCsboSpartan3A wc) := rfl
theorem RowMatchesItsTable.writeGeneral1Spartan3A (wc : BitVec 5) : RowMatchesItsTable.Statement (.writeGeneral1Spartan3A wc) := rfl
theorem RowMatchesItsTable.writeGeneral2Spartan3A (wc : BitVec 5) : RowMatchesItsTable.Statement (.writeGeneral2Spartan3A wc) := rfl
theorem RowMatchesItsTable.writeModeSpartan3A (wc : BitVec 5) : RowMatchesItsTable.Statement (.writeModeSpartan3A wc) := rfl
theorem RowMatchesItsTable.writePuGweSpartan3A (wc : BitVec 5) : RowMatchesItsTable.Statement (.writePuGweSpartan3A wc) := rfl
theorem RowMatchesItsTable.writePuGtsSpartan3A (wc : BitVec 5) : RowMatchesItsTable.Statement (.writePuGtsSpartan3A wc) := rfl
theorem RowMatchesItsTable.writeMfwrSpartan3A (wc : BitVec 5) : RowMatchesItsTable.Statement (.writeMfwrSpartan3A wc) := rfl
theorem RowMatchesItsTable.writeCclkFreqSpartan3A (wc : BitVec 5) : RowMatchesItsTable.Statement (.writeCclkFreqSpartan3A wc) := rfl
theorem RowMatchesItsTable.writeSeuOptSpartan3A (wc : BitVec 5) : RowMatchesItsTable.Statement (.writeSeuOptSpartan3A wc) := rfl
theorem RowMatchesItsTable.writeExpSignSpartan3A (wc : BitVec 5) : RowMatchesItsTable.Statement (.writeExpSignSpartan3A wc) := rfl
theorem RowMatchesItsTable.writeRdbkSignSpartan3A (wc : BitVec 5) : RowMatchesItsTable.Statement (.writeRdbkSignSpartan3A wc) := rfl
theorem RowMatchesItsTable.writeCrcSpartan6 (wc : BitVec 5) : RowMatchesItsTable.Statement (.writeCrcSpartan6 wc) := rfl
theorem RowMatchesItsTable.writeFarMajSpartan6 (wc : BitVec 5) : RowMatchesItsTable.Statement (.writeFarMajSpartan6 wc) := rfl
theorem RowMatchesItsTable.writeFarMinSpartan6 (wc : BitVec 5) : RowMatchesItsTable.Statement (.writeFarMinSpartan6 wc) := rfl
theorem RowMatchesItsTable.writeFdriSpartan6 (wc : BitVec 5) : RowMatchesItsTable.Statement (.writeFdriSpartan6 wc) := rfl
theorem RowMatchesItsTable.writeCmdSpartan6 (wc : BitVec 5) : RowMatchesItsTable.Statement (.writeCmdSpartan6 wc) := rfl
theorem RowMatchesItsTable.writeCtl0Spartan6 (wc : BitVec 5) : RowMatchesItsTable.Statement (.writeCtl0Spartan6 wc) := rfl
theorem RowMatchesItsTable.writeMaskSpartan6 (wc : BitVec 5) : RowMatchesItsTable.Statement (.writeMaskSpartan6 wc) := rfl
theorem RowMatchesItsTable.writeLoutSpartan6 (wc : BitVec 5) : RowMatchesItsTable.Statement (.writeLoutSpartan6 wc) := rfl
theorem RowMatchesItsTable.writeCor1Spartan6 (wc : BitVec 5) : RowMatchesItsTable.Statement (.writeCor1Spartan6 wc) := rfl
theorem RowMatchesItsTable.writeCor2Spartan6 (wc : BitVec 5) : RowMatchesItsTable.Statement (.writeCor2Spartan6 wc) := rfl
theorem RowMatchesItsTable.writePwrdnSpartan6 (wc : BitVec 5) : RowMatchesItsTable.Statement (.writePwrdnSpartan6 wc) := rfl
theorem RowMatchesItsTable.writeFlrSpartan6 (wc : BitVec 5) : RowMatchesItsTable.Statement (.writeFlrSpartan6 wc) := rfl
theorem RowMatchesItsTable.writeIdcodeSpartan6 (wc : BitVec 5) : RowMatchesItsTable.Statement (.writeIdcodeSpartan6 wc) := rfl
theorem RowMatchesItsTable.writeCwdtSpartan6 (wc : BitVec 5) : RowMatchesItsTable.Statement (.writeCwdtSpartan6 wc) := rfl
theorem RowMatchesItsTable.writeHcOptSpartan6 (wc : BitVec 5) : RowMatchesItsTable.Statement (.writeHcOptSpartan6 wc) := rfl
theorem RowMatchesItsTable.writeCsboSpartan6 (wc : BitVec 5) : RowMatchesItsTable.Statement (.writeCsboSpartan6 wc) := rfl
theorem RowMatchesItsTable.writeGeneral1Spartan6 (wc : BitVec 5) : RowMatchesItsTable.Statement (.writeGeneral1Spartan6 wc) := rfl
theorem RowMatchesItsTable.writeGeneral2Spartan6 (wc : BitVec 5) : RowMatchesItsTable.Statement (.writeGeneral2Spartan6 wc) := rfl
theorem RowMatchesItsTable.writeGeneral3Spartan6 (wc : BitVec 5) : RowMatchesItsTable.Statement (.writeGeneral3Spartan6 wc) := rfl
theorem RowMatchesItsTable.writeGeneral4Spartan6 (wc : BitVec 5) : RowMatchesItsTable.Statement (.writeGeneral4Spartan6 wc) := rfl
theorem RowMatchesItsTable.writeGeneral5Spartan6 (wc : BitVec 5) : RowMatchesItsTable.Statement (.writeGeneral5Spartan6 wc) := rfl
theorem RowMatchesItsTable.writeModeSpartan6 (wc : BitVec 5) : RowMatchesItsTable.Statement (.writeModeSpartan6 wc) := rfl
theorem RowMatchesItsTable.writePuGweSpartan6 (wc : BitVec 5) : RowMatchesItsTable.Statement (.writePuGweSpartan6 wc) := rfl
theorem RowMatchesItsTable.writePuGtsSpartan6 (wc : BitVec 5) : RowMatchesItsTable.Statement (.writePuGtsSpartan6 wc) := rfl
theorem RowMatchesItsTable.writeMfwrSpartan6 (wc : BitVec 5) : RowMatchesItsTable.Statement (.writeMfwrSpartan6 wc) := rfl
theorem RowMatchesItsTable.writeCclkFreqSpartan6 (wc : BitVec 5) : RowMatchesItsTable.Statement (.writeCclkFreqSpartan6 wc) := rfl
theorem RowMatchesItsTable.writeSeuOptSpartan6 (wc : BitVec 5) : RowMatchesItsTable.Statement (.writeSeuOptSpartan6 wc) := rfl
theorem RowMatchesItsTable.writeExpSignSpartan6 (wc : BitVec 5) : RowMatchesItsTable.Statement (.writeExpSignSpartan6 wc) := rfl
theorem RowMatchesItsTable.writeRdbkSignSpartan6 (wc : BitVec 5) : RowMatchesItsTable.Statement (.writeRdbkSignSpartan6 wc) := rfl
theorem RowMatchesItsTable.writeEyeMaskSpartan6 (wc : BitVec 5) : RowMatchesItsTable.Statement (.writeEyeMaskSpartan6 wc) := rfl
theorem RowMatchesItsTable.writeCbcRegSpartan6 (wc : BitVec 5) : RowMatchesItsTable.Statement (.writeCbcRegSpartan6 wc) := rfl
theorem RowMatchesItsTable.cmdNullVirtexOriginal (ignored : BitVec 2) : RowMatchesItsTable.Statement (.cmdNullVirtexOriginal ignored) := rfl
theorem RowMatchesItsTable.cmdWcfgVirtexOriginal (ignored : BitVec 2) : RowMatchesItsTable.Statement (.cmdWcfgVirtexOriginal ignored) := rfl
theorem RowMatchesItsTable.cmdLfrmVirtexOriginal (ignored : BitVec 2) : RowMatchesItsTable.Statement (.cmdLfrmVirtexOriginal ignored) := rfl
theorem RowMatchesItsTable.cmdRcfgVirtexOriginal (ignored : BitVec 2) : RowMatchesItsTable.Statement (.cmdRcfgVirtexOriginal ignored) := rfl
theorem RowMatchesItsTable.cmdStartVirtexOriginal (ignored : BitVec 2) : RowMatchesItsTable.Statement (.cmdStartVirtexOriginal ignored) := rfl
theorem RowMatchesItsTable.cmdRcapVirtexOriginal (ignored : BitVec 2) : RowMatchesItsTable.Statement (.cmdRcapVirtexOriginal ignored) := rfl
theorem RowMatchesItsTable.cmdRcrcVirtexOriginal (ignored : BitVec 2) : RowMatchesItsTable.Statement (.cmdRcrcVirtexOriginal ignored) := rfl
theorem RowMatchesItsTable.cmdAghighVirtexOriginal (ignored : BitVec 2) : RowMatchesItsTable.Statement (.cmdAghighVirtexOriginal ignored) := rfl
theorem RowMatchesItsTable.cmdSwitchVirtexOriginal (ignored : BitVec 2) : RowMatchesItsTable.Statement (.cmdSwitchVirtexOriginal ignored) := rfl
theorem RowMatchesItsTable.cmdNullVirtexII (ignored : BitVec 2) : RowMatchesItsTable.Statement (.cmdNullVirtexII ignored) := rfl
theorem RowMatchesItsTable.cmdWcfgVirtexII (ignored : BitVec 2) : RowMatchesItsTable.Statement (.cmdWcfgVirtexII ignored) := rfl
theorem RowMatchesItsTable.cmdMfwrVirtexII (ignored : BitVec 2) : RowMatchesItsTable.Statement (.cmdMfwrVirtexII ignored) := rfl
theorem RowMatchesItsTable.cmdLfrmVirtexII (ignored : BitVec 2) : RowMatchesItsTable.Statement (.cmdLfrmVirtexII ignored) := rfl
theorem RowMatchesItsTable.cmdRcfgVirtexII (ignored : BitVec 2) : RowMatchesItsTable.Statement (.cmdRcfgVirtexII ignored) := rfl
theorem RowMatchesItsTable.cmdStartVirtexII (ignored : BitVec 2) : RowMatchesItsTable.Statement (.cmdStartVirtexII ignored) := rfl
theorem RowMatchesItsTable.cmdRcapVirtexII (ignored : BitVec 2) : RowMatchesItsTable.Statement (.cmdRcapVirtexII ignored) := rfl
theorem RowMatchesItsTable.cmdRcrcVirtexII (ignored : BitVec 2) : RowMatchesItsTable.Statement (.cmdRcrcVirtexII ignored) := rfl
theorem RowMatchesItsTable.cmdAghighVirtexII (ignored : BitVec 2) : RowMatchesItsTable.Statement (.cmdAghighVirtexII ignored) := rfl
theorem RowMatchesItsTable.cmdSwitchVirtexII (ignored : BitVec 2) : RowMatchesItsTable.Statement (.cmdSwitchVirtexII ignored) := rfl
theorem RowMatchesItsTable.cmdGrestoreVirtexII (ignored : BitVec 2) : RowMatchesItsTable.Statement (.cmdGrestoreVirtexII ignored) := rfl
theorem RowMatchesItsTable.cmdShutdownVirtexII (ignored : BitVec 2) : RowMatchesItsTable.Statement (.cmdShutdownVirtexII ignored) := rfl
theorem RowMatchesItsTable.cmdGcaptureVirtexII (ignored : BitVec 2) : RowMatchesItsTable.Statement (.cmdGcaptureVirtexII ignored) := rfl
theorem RowMatchesItsTable.cmdDesynchVirtexII (ignored : BitVec 2) : RowMatchesItsTable.Statement (.cmdDesynchVirtexII ignored) := rfl
theorem RowMatchesItsTable.cmdNullVirtexIVPlus (ignored : BitVec 2) : RowMatchesItsTable.Statement (.cmdNullVirtexIVPlus ignored) := rfl
theorem RowMatchesItsTable.cmdWcfgVirtexIVPlus (ignored : BitVec 2) : RowMatchesItsTable.Statement (.cmdWcfgVirtexIVPlus ignored) := rfl
theorem RowMatchesItsTable.cmdMfwrVirtexIVPlus (ignored : BitVec 2) : RowMatchesItsTable.Statement (.cmdMfwrVirtexIVPlus ignored) := rfl
theorem RowMatchesItsTable.cmdLfrmVirtexIVPlus (ignored : BitVec 2) : RowMatchesItsTable.Statement (.cmdLfrmVirtexIVPlus ignored) := rfl
theorem RowMatchesItsTable.cmdRcfgVirtexIVPlus (ignored : BitVec 2) : RowMatchesItsTable.Statement (.cmdRcfgVirtexIVPlus ignored) := rfl
theorem RowMatchesItsTable.cmdStartVirtexIVPlus (ignored : BitVec 2) : RowMatchesItsTable.Statement (.cmdStartVirtexIVPlus ignored) := rfl
theorem RowMatchesItsTable.cmdRcapVirtexIVPlus (ignored : BitVec 2) : RowMatchesItsTable.Statement (.cmdRcapVirtexIVPlus ignored) := rfl
theorem RowMatchesItsTable.cmdRcrcVirtexIVPlus (ignored : BitVec 2) : RowMatchesItsTable.Statement (.cmdRcrcVirtexIVPlus ignored) := rfl
theorem RowMatchesItsTable.cmdAghighVirtexIVPlus (ignored : BitVec 2) : RowMatchesItsTable.Statement (.cmdAghighVirtexIVPlus ignored) := rfl
theorem RowMatchesItsTable.cmdSwitchVirtexIVPlus (ignored : BitVec 2) : RowMatchesItsTable.Statement (.cmdSwitchVirtexIVPlus ignored) := rfl
theorem RowMatchesItsTable.cmdGrestoreVirtexIVPlus (ignored : BitVec 2) : RowMatchesItsTable.Statement (.cmdGrestoreVirtexIVPlus ignored) := rfl
theorem RowMatchesItsTable.cmdShutdownVirtexIVPlus (ignored : BitVec 2) : RowMatchesItsTable.Statement (.cmdShutdownVirtexIVPlus ignored) := rfl
theorem RowMatchesItsTable.cmdGcaptureVirtexIVPlus (ignored : BitVec 2) : RowMatchesItsTable.Statement (.cmdGcaptureVirtexIVPlus ignored) := rfl
theorem RowMatchesItsTable.cmdDesynchVirtexIVPlus (ignored : BitVec 2) : RowMatchesItsTable.Statement (.cmdDesynchVirtexIVPlus ignored) := rfl
theorem RowMatchesItsTable.cmdIprogVirtexIVPlus (ignored : BitVec 2) : RowMatchesItsTable.Statement (.cmdIprogVirtexIVPlus ignored) := rfl
theorem RowMatchesItsTable.cmdCrccVirtexIVPlus (ignored : BitVec 2) : RowMatchesItsTable.Statement (.cmdCrccVirtexIVPlus ignored) := rfl
theorem RowMatchesItsTable.cmdLtimerVirtexIVPlus (ignored : BitVec 2) : RowMatchesItsTable.Statement (.cmdLtimerVirtexIVPlus ignored) := rfl
theorem RowMatchesItsTable.cmdBspiReadVirtexIVPlus (ignored : BitVec 2) : RowMatchesItsTable.Statement (.cmdBspiReadVirtexIVPlus ignored) := rfl
theorem RowMatchesItsTable.cmdFallEdgeVirtexIVPlus (ignored : BitVec 2) : RowMatchesItsTable.Statement (.cmdFallEdgeVirtexIVPlus ignored) := rfl
theorem RowMatchesItsTable.cmdNullSpartan3A : RowMatchesItsTable.Statement .cmdNullSpartan3A := rfl
theorem RowMatchesItsTable.cmdWcfgSpartan3A : RowMatchesItsTable.Statement .cmdWcfgSpartan3A := rfl
theorem RowMatchesItsTable.cmdMfwrSpartan3A : RowMatchesItsTable.Statement .cmdMfwrSpartan3A := rfl
theorem RowMatchesItsTable.cmdLfrmSpartan3A : RowMatchesItsTable.Statement .cmdLfrmSpartan3A := rfl
theorem RowMatchesItsTable.cmdRcfgSpartan3A : RowMatchesItsTable.Statement .cmdRcfgSpartan3A := rfl
theorem RowMatchesItsTable.cmdStartSpartan3A : RowMatchesItsTable.Statement .cmdStartSpartan3A := rfl
theorem RowMatchesItsTable.cmdRcrcSpartan3A : RowMatchesItsTable.Statement .cmdRcrcSpartan3A := rfl
theorem RowMatchesItsTable.cmdAghighSpartan3A : RowMatchesItsTable.Statement .cmdAghighSpartan3A := rfl
theorem RowMatchesItsTable.cmdGrestoreSpartan3A : RowMatchesItsTable.Statement .cmdGrestoreSpartan3A := rfl
theorem RowMatchesItsTable.cmdShutdownSpartan3A : RowMatchesItsTable.Statement .cmdShutdownSpartan3A := rfl
theorem RowMatchesItsTable.cmdDesynchSpartan3A : RowMatchesItsTable.Statement .cmdDesynchSpartan3A := rfl
theorem RowMatchesItsTable.cmdIprogSpartan3A : RowMatchesItsTable.Statement .cmdIprogSpartan3A := rfl
theorem RowMatchesItsTable.cmdNullSpartan6 : RowMatchesItsTable.Statement .cmdNullSpartan6 := rfl
theorem RowMatchesItsTable.cmdWcfgSpartan6 : RowMatchesItsTable.Statement .cmdWcfgSpartan6 := rfl
theorem RowMatchesItsTable.cmdMfwrSpartan6 : RowMatchesItsTable.Statement .cmdMfwrSpartan6 := rfl
theorem RowMatchesItsTable.cmdLfrmSpartan6 : RowMatchesItsTable.Statement .cmdLfrmSpartan6 := rfl
theorem RowMatchesItsTable.cmdRcfgSpartan6 : RowMatchesItsTable.Statement .cmdRcfgSpartan6 := rfl
theorem RowMatchesItsTable.cmdStartSpartan6 : RowMatchesItsTable.Statement .cmdStartSpartan6 := rfl
theorem RowMatchesItsTable.cmdRcrcSpartan6 : RowMatchesItsTable.Statement .cmdRcrcSpartan6 := rfl
theorem RowMatchesItsTable.cmdAghighSpartan6 : RowMatchesItsTable.Statement .cmdAghighSpartan6 := rfl
theorem RowMatchesItsTable.cmdGrestoreSpartan6 : RowMatchesItsTable.Statement .cmdGrestoreSpartan6 := rfl
theorem RowMatchesItsTable.cmdShutdownSpartan6 : RowMatchesItsTable.Statement .cmdShutdownSpartan6 := rfl
theorem RowMatchesItsTable.cmdDesynchSpartan6 : RowMatchesItsTable.Statement .cmdDesynchSpartan6 := rfl
theorem RowMatchesItsTable.cmdIprogSpartan6 : RowMatchesItsTable.Statement .cmdIprogSpartan6 := rfl

end Sys2Proof.Laws
end

