-- ==== Sys2Proof/Laws/Step.lean ====
section
/-!
SUPPORT. What an instruction and a step can do: one inversion lemma for the meanings of all instructions but AUTOCRC, one for
AUTOCRC, one for the step. Invariants are proved by cases over these.
-/

namespace Sys2Proof.Machine

/-- The working copies that an instruction at a packet's header can commit from a state. -/
inductive YieldsFrom (s : State) : Yield → Prop where
  | dummy (n : Nat) (hn : n = 2 ∨ n = 4) (hs : s.synced = false) : YieldsFrom s (framing s .dummyWord n false)
  | widthDetect (hs : s.synced = false) (hl : s.position + 8 ≤ s.buf.len) :
      YieldsFrom s (framing s .widthDetect 8 false)
  | sync (n : Nat) (hn : n = 2 ∨ n = 4) (hs : s.synced = false) : YieldsFrom s (framing s .syncWord n true)
  | nop (n : Nat) (hn : n = 2 ∨ n = 4) (hs : s.synced = true) : YieldsFrom s (framing s .nop n true)
  | write (wb : Nat) (e : RegEntry) (n : Nat) (p : Packet) (hw : wb = 2 ∨ wb = 4) (hs : s.synced = true)
      (hl : s.position + wb + n * wb ≤ s.buf.len) (hc : cardAdmits e.card n = true)
      (hb : build s wb e n (writePayload s wb n) = .ok p) : YieldsFrom s (finishWrite s wb e (writePayload s wb n) p)
  | command (wb : Nat) (reg : RegId) (code : Word) (c : Command) (hw : wb = 2 ∨ wb = 4) (hs : s.synced = true)
      (hl : s.position + wb + 1 * wb ≤ s.buf.len) :
      YieldsFrom s (finishWrite s wb ⟨reg, .cmd, .one⟩ { writePayload s wb 1 with words := [code] } (.command c))
  | long (wb p n : Nat) (reg : RegId) (e : RegEntry) (pkt : Packet) (hw : wb = 2 ∨ wb = 4) (hs : s.synced = true)
      (hp : s.position + 4 ≤ p) (hl : p + n * wb ≤ s.buf.len) (he : s.lookupReg reg = some e) (hv : e.card = .var)
      (hb : longBuild s e n (longPayload s wb n p) = .ok pkt) (ha : ¬ (s.autoCrc = true ∧ e.tag = .fdri)) :
      YieldsFrom s (longYield s e (longPayload s wb n p) pkt)
  | longChecked (wb p n : Nat) (reg : RegId) (e : RegEntry) (pkt : Packet) (hw : wb = 2 ∨ wb = 4) (hs : s.synced = true)
      (hp : s.position + 4 ≤ p) (hl : p + n * wb + 4 ≤ s.buf.len) (he : s.lookupReg reg = some e) (hv : e.card = .var)
      (hb : longBuild s e n (longPayload s wb n p) = .ok pkt) (ha : s.autoCrc = true) (ht : e.tag = .fdri) :
      YieldsFrom s (checked (longYield s e (longPayload s wb n p) pkt) (s.buf.read (p + n * wb) 4))
  | bugFdri (hs : s.synced = true) (hb : s.bugFdri = true) : YieldsFrom s (bugYield s)

theorem YieldsFrom.of_dummy {s : State} {n : Nat} (hn : n = 2 ∨ n = 4) {y : Yield}
    (h : inMode false s (.ok (framing s .dummyWord n false)) = .ok y) : YieldsFrom s y := by
  obtain ⟨hs, h⟩ := inMode_ok h
  cases h
  exact .dummy n hn hs

theorem YieldsFrom.of_sync {s : State} {n : Nat} (hn : n = 2 ∨ n = 4) {y : Yield}
    (h : inMode false s (.ok (framing s .syncWord n true)) = .ok y) : YieldsFrom s y := by
  obtain ⟨hs, h⟩ := inMode_ok h
  cases h
  exact .sync n hn hs

theorem YieldsFrom.of_nop {s : State} {n : Nat} (hn : n = 2 ∨ n = 4) {y : Yield}
    (h : inMode true s (.ok (framing s .nop n true)) = .ok y) : YieldsFrom s y := by
  obtain ⟨hs, h⟩ := inMode_ok h
  cases h
  exact .nop n hn hs

theorem YieldsFrom.of_widthDetect {s : State} {y : Yield} (h : widthDetectPair s = .ok y) : YieldsFrom s y := by
  obtain ⟨hs, -, hl, -, rfl⟩ := widthDetectPair_ok h
  exact .widthDetect hs hl

theorem YieldsFrom.of_syncWord16 {s : State} {y : Yield} (h : syncWord16 s = .ok y) : YieldsFrom s y := by
  obtain ⟨hs, ⟨-, -, -, rfl⟩ | ⟨-, rfl⟩⟩ := syncWord16_ok h
  · exact .sync 4 (.inr rfl) hs
  · exact .sync 2 (.inl rfl) hs

theorem YieldsFrom.of_type1 {s : State} {wb n : Nat} {reg : RegId} (hw : wb = 2 ∨ wb = 4) {y : Yield}
    (h : type1Write s wb reg n = .ok y) : YieldsFrom s y := by
  obtain ⟨hs, hl, e, p, -, hc, hb, rfl⟩ := type1Write_ok h
  exact .write wb e n p hw hs hl hc hb

theorem YieldsFrom.of_row {s : State} {wb n : Nat} {e : RegEntry} (hw : wb = 2 ∨ wb = 4) {y : Yield}
    (h : rowWrite s wb e n = .ok y) : YieldsFrom s y := by
  obtain ⟨hs, hl, hc, p, hb, rfl⟩ := rowWrite_ok h
  exact .write wb e n p hw hs hl hc hb

theorem YieldsFrom.of_command {s : State} {wb : Nat} {reg : RegId} {code : Word} {c : Command} (hw : wb = 2 ∨ wb = 4)
    {y : Yield} (h : commandWrite s wb reg code c = .ok y) : YieldsFrom s y := by
  obtain ⟨hs, hl, rfl⟩ := commandWrite_ok h
  exact .command wb reg code c hw hs hl

theorem YieldsFrom.of_long {s : State} {wb n p : Nat} {reg : RegId} (hw : wb = 2 ∨ wb = 4) (hs : s.synced = true)
    (hp : s.position + 4 ≤ p) {y : Yield} (h : longWrite s wb reg n p = .ok y) : YieldsFrom s y := by
  obtain ⟨hl, e, pkt, he, hv, hb, ⟨ha, rfl⟩ | ⟨ha, ht, hq, rfl⟩⟩ := longWrite_ok h
  · exact .long wb p n reg e pkt hw hs hp hl he hv hb ha
  · exact .longChecked wb p n reg e pkt hw hs hp hq he hv hb ha ht

theorem YieldsFrom.of_type2 {s : State} {n : Nat} {y : Yield} (h : type2Write s n = .ok y) : YieldsFrom s y := by
  obtain ⟨hs, reg, -, h⟩ := type2Write_ok h
  exact of_long (.inr rfl) hs le_rfl h

theorem YieldsFrom.of_long16 {s : State} {field : RegId} {y : Yield} (h : longWrite16 s field = .ok y) :
    YieldsFrom s y := by
  obtain ⟨hs, reg, -, -, h⟩ := longWrite16_ok h
  exact of_long (.inl rfl) hs (by omega) h

theorem YieldsFrom.of_bugFdri {s : State} {y : Yield} (h : bugFdriWrite s = .ok y) : YieldsFrom s y := by
  obtain ⟨hs, hb, rfl⟩ := bugFdriWrite_ok h
  exact .bugFdri hs hb

/-- An instruction is a settled procedure whose yields are those above. -/
def Settles (i : Instr) (s : State) : Prop := ∃ r, exec i s = settle s r ∧ ∀ y, r = .ok y → YieldsFrom s y

theorem settles_dummy32 (s : State) : Settles .dummy32 s :=
  ⟨_, rfl, fun _ => .of_dummy (.inr rfl)⟩
theorem settles_dummy16 (s : State) : Settles .dummy16 s :=
  ⟨_, rfl, fun _ => .of_dummy (.inl rfl)⟩
theorem settles_widthDetect (s : State) : Settles .widthDetect s :=
  ⟨_, rfl, fun _ => .of_widthDetect⟩
theorem settles_sync32 (s : State) : Settles .sync32 s :=
  ⟨_, rfl, fun _ => .of_sync (.inr rfl)⟩
theorem settles_sync16 (s : State) : Settles .sync16 s :=
  ⟨_, rfl, fun _ => .of_syncWord16⟩
theorem settles_nop32 (s : State) : Settles .nop32 s :=
  ⟨_, rfl, fun _ => .of_nop (.inr rfl)⟩
theorem settles_nop16 (s : State) : Settles .nop16 s :=
  ⟨_, rfl, fun _ => .of_nop (.inl rfl)⟩
theorem settles_t1write32 (reg : BitVec 14) (ignored : BitVec 2) (wc : BitVec 11) (s : State) : Settles (.t1write32 reg ignored wc) s :=
  ⟨_, rfl, fun _ => .of_type1 (.inr rfl)⟩
theorem settles_t1write16 (reg : BitVec 6) (wc : BitVec 5) (s : State) : Settles (.t1write16 reg wc) s :=
  ⟨_, rfl, fun _ => .of_type1 (.inl rfl)⟩
theorem settles_t2write (wc : BitVec 27) (s : State) : Settles (.t2write wc) s :=
  ⟨_, rfl, fun _ => .of_type2⟩
theorem settles_lwrite (low : BitVec 11) (s : State) : Settles (.lwrite low) s :=
  ⟨_, rfl, fun _ => .of_long16⟩
theorem settles_bugFdri (s : State) : Settles .bugFdri s :=
  ⟨_, rfl, fun _ => .of_bugFdri⟩
theorem settles_writeCrcVirtexOriginal (ignored : BitVec 2) (wc : BitVec 11) (s : State) : Settles (.writeCrcVirtexOriginal ignored wc) s :=
  ⟨_, rfl, fun _ => .of_row (.inr rfl)⟩
theorem settles_writeFarVirtexOriginal (ignored : BitVec 2) (wc : BitVec 11) (s : State) : Settles (.writeFarVirtexOriginal ignored wc) s :=
  ⟨_, rfl, fun _ => .of_row (.inr rfl)⟩
theorem settles_writeFdriVirtexOriginal (ignored : BitVec 2) (wc : BitVec 11) (s : State) : Settles (.writeFdriVirtexOriginal ignored wc) s :=
  ⟨_, rfl, fun _ => .of_row (.inr rfl)⟩
theorem settles_writeCmdVirtexOriginal (ignored : BitVec 2) (wc : BitVec 11) (s : State) : Settles (.writeCmdVirtexOriginal ignored wc) s :=
  ⟨_, rfl, fun _ => .of_row (.inr rfl)⟩
theorem settles_writeCtl0VirtexOriginal (ignored : BitVec 2) (wc : BitVec 11) (s : State) : Settles (.writeCtl0VirtexOriginal ignored wc) s :=
  ⟨_, rfl, fun _ => .of_row (.inr rfl)⟩
theorem settles_writeMaskVirtexOriginal (ignored : BitVec 2) (wc : BitVec 11) (s : State) : Settles (.writeMaskVirtexOriginal ignored wc) s :=
  ⟨_, rfl, fun _ => .of_row (.inr rfl)⟩
theorem settles_writeLoutVirtexOriginal (ignored : BitVec 2) (wc : BitVec 11) (s : State) : Settles (.writeLoutVirtexOriginal ignored wc) s :=
  ⟨_, rfl, fun _ => .of_row (.inr rfl)⟩
theorem settles_writeCor0VirtexOriginal (ignored : BitVec 2) (wc : BitVec 11) (s : State) : Settles (.writeCor0VirtexOriginal ignored wc) s :=
  ⟨_, rfl, fun _ => .of_row (.inr rfl)⟩
theorem settles_writeFlrVirtexOriginal (ignored : BitVec 2) (wc : BitVec 11) (s : State) : Settles (.writeFlrVirtexOriginal ignored wc) s :=
  ⟨_, rfl, fun _ => .of_row (.inr rfl)⟩
theorem settles_writeCrcVirtexII (ignored : BitVec 2) (wc : BitVec 11) (s : State) : Settles (.writeCrcVirtexII ignored wc) s :=
  ⟨_, rfl, fun _ => .of_row (.inr rfl)⟩
theorem settles_writeFarVirtexII (ignored : BitVec 2) (wc : BitVec 11) (s : State) : Settles (.writeFarVirtexII ignored wc) s :=
  ⟨_, rfl, fun _ => .of_row (.inr rfl)⟩
theorem settles_writeFdriVirtexII (ignored : BitVec 2) (wc : BitVec 11) (s : State) : Settles (.writeFdriVirtexII ignored wc) s :=
  ⟨_, rfl, fun _ => .of_row (.inr rfl)⟩
theorem settles_writeCmdVirtexII (ignored : BitVec 2) (wc : BitVec 11) (s : State) : Settles (.writeCmdVirtexII ignored wc) s :=
  ⟨_, rfl, fun _ => .of_row (.inr rfl)⟩
theorem settles_writeCtl0VirtexII (ignored : BitVec 2) (wc : BitVec 11) (s : State) : Settles (.writeCtl0VirtexII ignored wc) s :=
  ⟨_, rfl, fun _ => .of_row (.inr rfl)⟩
theorem settles_writeMaskVirtexII (ignored : BitVec 2) (wc : BitVec 11) (s : State) : Settles (.writeMaskVirtexII ignored wc) s :=
  ⟨_, rfl, fun _ => .of_row (.inr rfl)⟩
theorem settles_writeLoutVirtexII (ignored : BitVec 2) (wc : BitVec 11) (s : State) : Settles (.writeLoutVirtexII ignored wc) s :=
  ⟨_, rfl, fun _ => .of_row (.inr rfl)⟩
theorem settles_writeCor0VirtexII (ignored : BitVec 2) (wc : BitVec 11) (s : State) : Settles (.writeCor0VirtexII ignored wc) s :=
  ⟨_, rfl, fun _ => .of_row (.inr rfl)⟩
theorem settles_writeMfwrVirtexII (ignored : BitVec 2) (wc : BitVec 11) (s : State) : Settles (.writeMfwrVirtexII ignored wc) s :=
  ⟨_, rfl, fun _ => .of_row (.inr rfl)⟩
theorem settles_writeFlrVirtexII (ignored : BitVec 2) (wc : BitVec 11) (s : State) : Settles (.writeFlrVirtexII ignored wc) s :=
  ⟨_, rfl, fun _ => .of_row (.inr rfl)⟩
theorem settles_writeKeyVirtexII (ignored : BitVec 2) (wc : BitVec 11) (s : State) : Settles (.writeKeyVirtexII ignored wc) s :=
  ⟨_, rfl, fun _ => .of_row (.inr rfl)⟩
theorem settles_writeCbcVirtexII (ignored : BitVec 2) (wc : BitVec 11) (s : State) : Settles (.writeCbcVirtexII ignored wc) s :=
  ⟨_, rfl, fun _ => .of_row (.inr rfl)⟩
theorem settles_writeIdcodeVirtexII (ignored : BitVec 2) (wc : BitVec 11) (s : State) : Settles (.writeIdcodeVirtexII ignored wc) s :=
  ⟨_, rfl, fun _ => .of_row (.inr rfl)⟩
theorem settles_writeCrcVirtexIVPlus (ignored : BitVec 2) (wc : BitVec 11) (s : State) : Settles (.writeCrcVirtexIVPlus ignored wc) s :=
  ⟨_, rfl, fun _ => .of_row (.inr rfl)⟩
theorem settles_writeFarVirtexIVPlus (ignored : BitVec 2) (wc : BitVec 11) (s : State) : Settles (.writeFarVirtexIVPlus ignored wc) s :=
  ⟨_, rfl, fun _ => .of_row (.inr rfl)⟩
theorem settles_writeFdriVirtexIVPlus (ignored : BitVec 2) (wc : BitVec 11) (s : State) : Settles (.writeFdriVirtexIVPlus ignored wc) s :=
  ⟨_, rfl, fun _ => .of_row (.inr rfl)⟩
theorem settles_writeCmdVirtexIVPlus (ignored : BitVec 2) (wc : BitVec 11) (s : State) : Settles (.writeCmdVirtexIVPlus ignored wc) s :=
  ⟨_, rfl, fun _ => .of_row (.inr rfl)⟩
theorem settles_writeCtl0VirtexIVPlus (ignored : BitVec 2) (wc : BitVec 11) (s : State) : Settles (.writeCtl0VirtexIVPlus ignored wc) s :=
  ⟨_, rfl, fun _ => .of_row (.inr rfl)⟩
theorem settles_writeMaskVirtexIVPlus (ignored : BitVec 2) (wc : BitVec 11) (s : State) : Settles (.writeMaskVirtexIVPlus ignored wc) s :=
  ⟨_, rfl, fun _ => .of_row (.inr rfl)⟩
theorem settles_writeLoutVirtexIVPlus (ignored : BitVec 2) (wc : BitVec 11) (s : State) : Settles (.writeLoutVirtexIVPlus ignored wc) s :=
  ⟨_, rfl, fun _ => .of_row (.inr rfl)⟩
theorem settles_writeCor0VirtexIVPlus (ignored : BitVec 2) (wc : BitVec 11) (s : State) : Settles (.writeCor0VirtexIVPlus ignored wc) s :=
  ⟨_, rfl, fun _ => .of_row (.inr rfl)⟩
theorem settles_writeMfwrVirtexIVPlus (ignored : BitVec 2) (wc : BitVec 11) (s : State) : Settles (.writeMfwrVirtexIVPlus ignored wc) s :=
  ⟨_, rfl, fun _ => .of_row (.inr rfl)⟩
theorem settles_writeCbcVirtexIVPlus (ignored : BitVec 2) (wc : BitVec 11) (s : State) : Settles (.writeCbcVirtexIVPlus ignored wc) s :=
  ⟨_, rfl, fun _ => .of_row (.inr rfl)⟩
theorem settles_writeIdcodeVirtexIVPlus (ignored : BitVec 2) (wc : BitVec 11) (s : State) : Settles (.writeIdcodeVirtexIVPlus ignored wc) s :=
  ⟨_, rfl, fun _ => .of_row (.inr rfl)⟩
theorem settles_writeAxssVirtexIVPlus (ignored : BitVec 2) (wc : BitVec 11) (s : State) : Settles (.writeAxssVirtexIVPlus ignored wc) s :=
  ⟨_, rfl, fun _ => .of_row (.inr rfl)⟩
theorem settles_writeCor1VirtexIVPlus (ignored : BitVec 2) (wc : BitVec 11) (s : State) : Settles (.writeCor1VirtexIVPlus ignored wc) s :=
  ⟨_, rfl, fun _ => .of_row (.inr rfl)⟩
theorem settles_writeCsobVirtexIVPlus (ignored : BitVec 2) (wc : BitVec 11) (s : State) : Settles (.writeCsobVirtexIVPlus ignored wc) s :=
  ⟨_, rfl, fun _ => .of_row (.inr rfl)⟩
theorem settles_writeWbstarVirtexIVPlus (ignored : BitVec 2) (wc : BitVec 11) (s : State) : Settles (.writeWbstarVirtexIVPlus ignored wc) s :=
  ⟨_, rfl, fun _ => .of_row (.inr rfl)⟩
theorem settles_writeTimerVirtexIVPlus (ignored : BitVec 2) (wc : BitVec 11) (s : State) : Settles (.writeTimerVirtexIVPlus ignored wc) s :=
  ⟨_, rfl, fun _ => .of_row (.inr rfl)⟩
theorem settles_writeRbcrcSwVirtexIVPlus (ignored : BitVec 2) (wc : BitVec 11) (s : State) : Settles (.writeRbcrcSwVirtexIVPlus ignored wc) s :=
  ⟨_, rfl, fun _ => .of_row (.inr rfl)⟩
theorem settles_writeCtl1VirtexIVPlus (ignored : BitVec 2) (wc : BitVec 11) (s : State) : Settles (.writeCtl1VirtexIVPlus ignored wc) s :=
  ⟨_, rfl, fun _ => .of_row (.inr rfl)⟩
theorem settles_writeBspiVirtexIVPlus (ignored : BitVec 2) (wc : BitVec 11) (s : State) : Settles (.writeBspiVirtexIVPlus ignored wc) s :=
  ⟨_, rfl, fun _ => .of_row (.inr rfl)⟩
theorem settles_writeCrcSpartan3A (wc : BitVec 5) (s : State) : Settles (.writeCrcSpartan3A wc) s :=
  ⟨_, rfl, fun _ => .of_row (.inl rfl)⟩
theorem settles_writeFarMajSpartan3A (wc : BitVec 5) (s : State) : Settles (.writeFarMajSpartan3A wc) s :=
  ⟨_, rfl, fun _ => .of_row (.inl rfl)⟩
theorem settles_writeFarMinSpartan3A (wc : BitVec 5) (s : State) : Settles (.writeFarMinSpartan3A wc) s :=
  ⟨_, rfl, fun _ => .of_row (.inl rfl)⟩
theorem settles_writeFdriSpartan3A (wc : BitVec 5) (s : State) : Settles (.writeFdriSpartan3A wc) s :=
  ⟨_, rfl, fun _ => .of_row (.inl rfl)⟩
theorem settles_writeCmdSpartan3A (wc : BitVec 5) (s : State) : Settles (.writeCmdSpartan3A wc) s :=
  ⟨_, rfl, fun _ => .of_row (.inl rfl)⟩
theorem settles_writeCtl0Spartan3A (wc : BitVec 5) (s : State) : Settles (.writeCtl0Spartan3A wc) s :=
  ⟨_, rfl, fun _ => .of_row (.inl rfl)⟩
theorem settles_writeMaskSpartan3A (wc : BitVec 5) (s : State) : Settles (.writeMaskSpartan3A wc) s :=
  ⟨_, rfl, fun _ => .of_row (.inl rfl)⟩
theorem settles_writeLoutSpartan3A (wc : BitVec 5) (s : State) : Settles (.writeLoutSpartan3A wc) s :=
  ⟨_, rfl, fun _ => .of_row (.inl rfl)⟩
theorem settles_writeCor1Spartan3A (wc : BitVec 5) (s : State) : Settles (.writeCor1Spartan3A wc) s :=
  ⟨_, rfl, fun _ => .of_row (.inl rfl)⟩
theorem settles_writeCor2Spartan3A (wc : BitVec 5) (s : State) : Settles (.writeCor2Spartan3A wc) s :=
  ⟨_, rfl, fun _ => .of_row (.inl rfl)⟩
theorem settles_writePwrdnSpartan3A (wc : BitVec 5) (s : State) : Settles (.writePwrdnSpartan3A wc) s :=
  ⟨_, rfl, fun _ => .of_row (.inl rfl)⟩
theorem settles_writeFlrSpartan3A (wc : BitVec 5) (s : State) : Settles (.writeFlrSpartan3A wc) s :=
  ⟨_, rfl, fun _ => .of_row (.inl rfl)⟩
theorem settles_writeIdcodeSpartan3A (wc : BitVec 5) (s : State) : Settles (.writeIdcodeSpartan3A wc) s :=
  ⟨_, rfl, fun _ => .of_row (.inl rfl)⟩
theorem settles_writeSnowplowSpartan3A (wc : BitVec 5) (s : State) : Settles (.writeSnowplowSpartan3A wc) s :=
  ⟨_, rfl, fun _ => .of_row (.inl rfl)⟩
theorem settles_writeHcOptSpartan3A (wc : BitVec 5) (s : State) : Settles (.writeHcOptSpartan3A wc) s :=
  ⟨_, rfl, fun _ => .of_row (.inl rfl)⟩
theorem settles_writeCsboSpartan3A (wc : BitVec 5) (s : State) : Settles (.writeCsboSpartan3A wc) s :=
  ⟨_, rfl, fun _ => .of_row (.inl rfl)⟩
theorem settles_writeGeneral1Spartan3A (wc : BitVec 5) (s : State) : Settles (.writeGeneral1Spartan3A wc) s :=
  ⟨_, rfl, fun _ => .of_row (.inl rfl)⟩
theorem settles_writeGeneral2Spartan3A (wc : BitVec 5) (s : State) : Settles (.writeGeneral2Spartan3A wc) s :=
  ⟨_, rfl, fun _ => .of_row (.inl rfl)⟩
theorem settles_writeModeSpartan3A (wc : BitVec 5) (s : State) : Settles (.writeModeSpartan3A wc) s :=
  ⟨_, rfl, fun _ => .of_row (.inl rfl)⟩
theorem settles_writePuGweSpartan3A (wc : BitVec 5) (s : State) : Settles (.writePuGweSpartan3A wc) s :=
  ⟨_, rfl, fun _ => .of_row (.inl rfl)⟩
theorem settles_writePuGtsSpartan3A (wc : BitVec 5) (s : State) : Settles (.writePuGtsSpartan3A wc) s :=
  ⟨_, rfl, fun _ => .of_row (.inl rfl)⟩
theorem settles_writeMfwrSpartan3A (wc : BitVec 5) (s : State) : Settles (.writeMfwrSpartan3A wc) s :=
  ⟨_, rfl, fun _ => .of_row (.inl rfl)⟩
theorem settles_writeCclkFreqSpartan3A (wc : BitVec 5) (s : State) : Settles (.writeCclkFreqSpartan3A wc) s :=
  ⟨_, rfl, fun _ => .of_row (.inl rfl)⟩
theorem settles_writeSeuOptSpartan3A (wc : BitVec 5) (s : State) : Settles (.writeSeuOptSpartan3A wc) s :=
  ⟨_, rfl, fun _ => .of_row (.inl rfl)⟩
theorem settles_writeExpSignSpartan3A (wc : BitVec 5) (s : State) : Settles (.writeExpSignSpartan3A wc) s :=
  ⟨_, rfl, fun _ => .of_row (.inl rfl)⟩
theorem settles_writeRdbkSignSpartan3A (wc : BitVec 5) (s : State) : Settles (.writeRdbkSignSpartan3A wc) s :=
  ⟨_, rfl, fun _ => .of_row (.inl rfl)⟩
theorem settles_writeCrcSpartan6 (wc : BitVec 5) (s : State) : Settles (.writeCrcSpartan6 wc) s :=
  ⟨_, rfl, fun _ => .of_row (.inl rfl)⟩
theorem settles_writeFarMajSpartan6 (wc : BitVec 5) (s : State) : Settles (.writeFarMajSpartan6 wc) s :=
  ⟨_, rfl, fun _ => .of_row (.inl rfl)⟩
theorem settles_writeFarMinSpartan6 (wc : BitVec 5) (s : State) : Settles (.writeFarMinSpartan6 wc) s :=
  ⟨_, rfl, fun _ => .of_row (.inl rfl)⟩
theorem settles_writeFdriSpartan6 (wc : BitVec 5) (s : State) : Settles (.writeFdriSpartan6 wc) s :=
  ⟨_, rfl, fun _ => .of_row (.inl rfl)⟩
theorem settles_writeCmdSpartan6 (wc : BitVec 5) (s : State) : Settles (.writeCmdSpartan6 wc) s :=
  ⟨_, rfl, fun _ => .of_row (.inl rfl)⟩
theorem settles_writeCtl0Spartan6 (wc : BitVec 5) (s : State) : Settles (.writeCtl0Spartan6 wc) s :=
  ⟨_, rfl, fun _ => .of_row (.inl rfl)⟩
theorem settles_writeMaskSpartan6 (wc : BitVec 5) (s : State) : Settles (.writeMaskSpartan6 wc) s :=
  ⟨_, rfl, fun _ => .of_row (.inl rfl)⟩
theorem settles_writeLoutSpartan6 (wc : BitVec 5) (s : State) : Settles (.writeLoutSpartan6 wc) s :=
  ⟨_, rfl, fun _ => .of_row (.inl rfl)⟩
theorem settles_writeCor1Spartan6 (wc : BitVec 5) (s : State) : Settles (.writeCor1Spartan6 wc) s :=
  ⟨_, rfl, fun _ => .of_row (.inl rfl)⟩
theorem settles_writeCor2Spartan6 (wc : BitVec 5) (s : State) : Settles (.writeCor2Spartan6 wc) s :=
  ⟨_, rfl, fun _ => .of_row (.inl rfl)⟩
theorem settles_writePwrdnSpartan6 (wc : BitVec 5) (s : State) : Settles (.writePwrdnSpartan6 wc) s :=
  ⟨_, rfl, fun _ => .of_row (.inl rfl)⟩
theorem settles_writeFlrSpartan6 (wc : BitVec 5) (s : State) : Settles (.writeFlrSpartan6 wc) s :=
  ⟨_, rfl, fun _ => .of_row (.inl rfl)⟩
theorem settles_writeIdcodeSpartan6 (wc : BitVec 5) (s : State) : Settles (.writeIdcodeSpartan6 wc) s :=
  ⟨_, rfl, fun _ => .of_row (.inl rfl)⟩
theorem settles_writeCwdtSpartan6 (wc : BitVec 5) (s : State) : Settles (.writeCwdtSpartan6 wc) s :=
  ⟨_, rfl, fun _ => .of_row (.inl rfl)⟩
theorem settles_writeHcOptSpartan6 (wc : BitVec 5) (s : State) : Settles (.writeHcOptSpartan6 wc) s :=
  ⟨_, rfl, fun _ => .of_row (.inl rfl)⟩
theorem settles_writeCsboSpartan6 (wc : BitVec 5) (s : State) : Settles (.writeCsboSpartan6 wc) s :=
  ⟨_, rfl, fun _ => .of_row (.inl rfl)⟩
theorem settles_writeGeneral1Spartan6 (wc : BitVec 5) (s : State) : Settles (.writeGeneral1Spartan6 wc) s :=
  ⟨_, rfl, fun _ => .of_row (.inl rfl)⟩
theorem settles_writeGeneral2Spartan6 (wc : BitVec 5) (s : State) : Settles (.writeGeneral2Spartan6 wc) s :=
  ⟨_, rfl, fun _ => .of_row (.inl rfl)⟩
theorem settles_writeGeneral3Spartan6 (wc : BitVec 5) (s : State) : Settles (.writeGeneral3Spartan6 wc) s :=
  ⟨_, rfl, fun _ => .of_row (.inl rfl)⟩
theorem settles_writeGeneral4Spartan6 (wc : BitVec 5) (s : State) : Settles (.writeGeneral4Spartan6 wc) s :=
  ⟨_, rfl, fun _ => .of_row (.inl rfl)⟩
theorem settles_writeGeneral5Spartan6 (wc : BitVec 5) (s : State) : Settles (.writeGeneral5Spartan6 wc) s :=
  ⟨_, rfl, fun _ => .of_row (.inl rfl)⟩
theorem settles_writeModeSpartan6 (wc : BitVec 5) (s : State) : Settles (.writeModeSpartan6 wc) s :=
  ⟨_, rfl, fun _ => .of_row (.inl rfl)⟩
theorem settles_writePuGweSpartan6 (wc : BitVec 5) (s : State) : Settles (.writePuGweSpartan6 wc) s :=
  ⟨_, rfl, fun _ => .of_row (.inl rfl)⟩
theorem settles_writePuGtsSpartan6 (wc : BitVec 5) (s : State) : Settles (.writePuGtsSpartan6 wc) s :=
  ⟨_, rfl, fun _ => .of_row (.inl rfl)⟩
theorem settles_writeMfwrSpartan6 (wc : BitVec 5) (s : State) : Settles (.writeMfwrSpartan6 wc) s :=
  ⟨_, rfl, fun _ => .of_row (.inl rfl)⟩
theorem settles_writeCclkFreqSpartan6 (wc : BitVec 5) (s : State) : Settles (.writeCclkFreqSpartan6 wc) s :=
  ⟨_, rfl, fun _ => .of_row (.inl rfl)⟩
theorem settles_writeSeuOptSpartan6 (wc : BitVec 5) (s : State) : Settles (.writeSeuOptSpartan6 wc) s :=
  ⟨_, rfl, fun _ => .of_row (.inl rfl)⟩
theorem settles_writeExpSignSpartan6 (wc : BitVec 5) (s : State) : Settles (.writeExpSignSpartan6 wc) s :=
  ⟨_, rfl, fun _ => .of_row (.inl rfl)⟩
theorem settles_writeRdbkSignSpartan6 (wc : BitVec 5) (s : State) : Settles (.writeRdbkSignSpartan6 wc) s :=
  ⟨_, rfl, fun _ => .of_row (.inl rfl)⟩
theorem settles_writeEyeMaskSpartan6 (wc : BitVec 5) (s : State) : Settles (.writeEyeMaskSpartan6 wc) s :=
  ⟨_, rfl, fun _ => .of_row (.inl rfl)⟩
theorem settles_writeCbcRegSpartan6 (wc : BitVec 5) (s : State) : Settles (.writeCbcRegSpartan6 wc) s :=
  ⟨_, rfl, fun _ => .of_row (.inl rfl)⟩
theorem settles_cmdNullVirtexOriginal (ignored : BitVec 2) (s : State) : Settles (.cmdNullVirtexOriginal ignored) s :=
  ⟨_, rfl, fun _ => .of_command (.inr rfl)⟩
theorem settles_cmdWcfgVirtexOriginal (ignored : BitVec 2) (s : State) : Settles (.cmdWcfgVirtexOriginal ignored) s :=
  ⟨_, rfl, fun _ => .of_command (.inr rfl)⟩
theorem settles_cmdLfrmVirtexOriginal (ignored : BitVec 2) (s : State) : Settles (.cmdLfrmVirtexOriginal ignored) s :=
  ⟨_, rfl, fun _ => .of_command (.inr rfl)⟩
theorem settles_cmdRcfgVirtexOriginal (ignored : BitVec 2) (s : State) : Settles (.cmdRcfgVirtexOriginal ignored) s :=
  ⟨_, rfl, fun _ => .of_command (.inr rfl)⟩
theorem settles_cmdStartVirtexOriginal (ignored : BitVec 2) (s : State) : Settles (.cmdStartVirtexOriginal ignored) s :=
  ⟨_, rfl, fun _ => .of_command (.inr rfl)⟩
theorem settles_cmdRcapVirtexOriginal (ignored : BitVec 2) (s : State) : Settles (.cmdRcapVirtexOriginal ignored) s :=
  ⟨_, rfl, fun _ => .of_command (.inr rfl)⟩
theorem settles_cmdRcrcVirtexOriginal (ignored : BitVec 2) (s : State) : Settles (.cmdRcrcVirtexOriginal ignored) s :=
  ⟨_, rfl, fun _ => .of_command (.inr rfl)⟩
theorem settles_cmdAghighVirtexOriginal (ignored : BitVec 2) (s : State) : Settles (.cmdAghighVirtexOriginal ignored) s :=
  ⟨_, rfl, fun _ => .of_command (.inr rfl)⟩
theorem settles_cmdSwitchVirtexOriginal (ignored : BitVec 2) (s : State) : Settles (.cmdSwitchVirtexOriginal ignored) s :=
  ⟨_, rfl, fun _ => .of_command (.inr rfl)⟩
theorem settles_cmdNullVirtexII (ignored : BitVec 2) (s : State) : Settles (.cmdNullVirtexII ignored) s :=
  ⟨_, rfl, fun _ => .of_command (.inr rfl)⟩
theorem settles_cmdWcfgVirtexII (ignored : BitVec 2) (s : State) : Settles (.cmdWcfgVirtexII ignored) s :=
  ⟨_, rfl, fun _ => .of_command (.inr rfl)⟩
theorem settles_cmdMfwrVirtexII (ignored : BitVec 2) (s : State) : Settles (.cmdMfwrVirtexII ignored) s :=
  ⟨_, rfl, fun _ => .of_command (.inr rfl)⟩
theorem settles_cmdLfrmVirtexII (ignored : BitVec 2) (s : State) : Settles (.cmdLfrmVirtexII ignored) s :=
  ⟨_, rfl, fun _ => .of_command (.inr rfl)⟩
theorem settles_cmdRcfgVirtexII (ignored : BitVec 2) (s : State) : Settles (.cmdRcfgVirtexII ignored) s :=
  ⟨_, rfl, fun _ => .of_command (.inr rfl)⟩
theorem settles_cmdStartVirtexII (ignored : BitVec 2) (s : State) : Settles (.cmdStartVirtexII ignored) s :=
  ⟨_, rfl, fun _ => .of_command (.inr rfl)⟩
theorem settles_cmdRcapVirtexII (ignored : BitVec 2) (s : State) : Settles (.cmdRcapVirtexII ignored) s :=
  ⟨_, rfl, fun _ => .of_command (.inr rfl)⟩
theorem settles_cmdRcrcVirtexII (ignored : BitVec 2) (s : State) : Settles (.cmdRcrcVirtexII ignored) s :=
  ⟨_, rfl, fun _ => .of_command (.inr rfl)⟩
theorem settles_cmdAghighVirtexII (ignored : BitVec 2) (s : State) : Settles (.cmdAghighVirtexII ignored) s :=
  ⟨_, rfl, fun _ => .of_command (.inr rfl)⟩
theorem settles_cmdSwitchVirtexII (ignored : BitVec 2) (s : State) : Settles (.cmdSwitchVirtexII ignored) s :=
  ⟨_, rfl, fun _ => .of_command (.inr rfl)⟩
theorem settles_cmdGrestoreVirtexII (ignored : BitVec 2) (s : State) : Settles (.cmdGrestoreVirtexII ignored) s :=
  ⟨_, rfl, fun _ => .of_command (.inr rfl)⟩
theorem settles_cmdShutdownVirtexII (ignored : BitVec 2) (s : State) : Settles (.cmdShutdownVirtexII ignored) s :=
  ⟨_, rfl, fun _ => .of_command (.inr rfl)⟩
theorem settles_cmdGcaptureVirtexII (ignored : BitVec 2) (s : State) : Settles (.cmdGcaptureVirtexII ignored) s :=
  ⟨_, rfl, fun _ => .of_command (.inr rfl)⟩
theorem settles_cmdDesynchVirtexII (ignored : BitVec 2) (s : State) : Settles (.cmdDesynchVirtexII ignored) s :=
  ⟨_, rfl, fun _ => .of_command (.inr rfl)⟩
theorem settles_cmdNullVirtexIVPlus (ignored : BitVec 2) (s : State) : Settles (.cmdNullVirtexIVPlus ignored) s :=
  ⟨_, rfl, fun _ => .of_command (.inr rfl)⟩
theorem settles_cmdWcfgVirtexIVPlus (ignored : BitVec 2) (s : State) : Settles (.cmdWcfgVirtexIVPlus ignored) s :=
  ⟨_, rfl, fun _ => .of_command (.inr rfl)⟩
theorem settles_cmdMfwrVirtexIVPlus (ignored : BitVec 2) (s : State) : Settles (.cmdMfwrVirtexIVPlus ignored) s :=
  ⟨_, rfl, fun _ => .of_command (.inr rfl)⟩
theorem settles_cmdLfrmVirtexIVPlus (ignored : BitVec 2) (s : State) : Settles (.cmdLfrmVirtexIVPlus ignored) s :=
  ⟨_, rfl, fun _ => .of_command (.inr rfl)⟩
theorem settles_cmdRcfgVirtexIVPlus (ignored : BitVec 2) (s : State) : Settles (.cmdRcfgVirtexIVPlus ignored) s :=
  ⟨_, rfl, fun _ => .of_command (.inr rfl)⟩
theorem settles_cmdStartVirtexIVPlus (ignored : BitVec 2) (s : State) : Settles (.cmdStartVirtexIVPlus ignored) s :=
  ⟨_, rfl, fun _ => .of_command (.inr rfl)⟩
theorem settles_cmdRcapVirtexIVPlus (ignored : BitVec 2) (s : State) : Settles (.cmdRcapVirtexIVPlus ignored) s :=
  ⟨_, rfl, fun _ => .of_command (.inr rfl)⟩
theorem settles_cmdRcrcVirtexIVPlus (ignored : BitVec 2) (s : State) : Settles (.cmdRcrcVirtexIVPlus ignored) s :=
  ⟨_, rfl, fun _ => .of_command (.inr rfl)⟩
theorem settles_cmdAghighVirtexIVPlus (ignored : BitVec 2) (s : State) : Settles (.cmdAghighVirtexIVPlus ignored) s :=
  ⟨_, rfl, fun _ => .of_command (.inr rfl)⟩
theorem settles_cmdSwitchVirtexIVPlus (ignored : BitVec 2) (s : State) : Settles (.cmdSwitchVirtexIVPlus ignored) s :=
  ⟨_, rfl, fun _ => .of_command (.inr rfl)⟩
theorem settles_cmdGrestoreVirtexIVPlus (ignored : BitVec 2) (s : State) : Settles (.cmdGrestoreVirtexIVPlus ignored) s :=
  ⟨_, rfl, fun _ => .of_command (.inr rfl)⟩
theorem settles_cmdShutdownVirtexIVPlus (ignored : BitVec 2) (s : State) : Settles (.cmdShutdownVirtexIVPlus ignored) s :=
  ⟨_, rfl, fun _ => .of_command (.inr rfl)⟩
theorem settles_cmdGcaptureVirtexIVPlus (ignored : BitVec 2) (s : State) : Settles (.cmdGcaptureVirtexIVPlus ignored) s :=
  ⟨_, rfl, fun _ => .of_command (.inr rfl)⟩
theorem settles_cmdDesynchVirtexIVPlus (ignored : BitVec 2) (s : State) : Settles (.cmdDesynchVirtexIVPlus ignored) s :=
  ⟨_, rfl, fun _ => .of_command (.inr rfl)⟩
theorem settles_cmdIprogVirtexIVPlus (ignored : BitVec 2) (s : State) : Settles (.cmdIprogVirtexIVPlus ignored) s :=
  ⟨_, rfl, fun _ => .of_command (.inr rfl)⟩
theorem settles_cmdCrccVirtexIVPlus (ignored : BitVec 2) (s : State) : Settles (.cmdCrccVirtexIVPlus ignored) s :=
  ⟨_, rfl, fun _ => .of_command (.inr rfl)⟩
theorem settles_cmdLtimerVirtexIVPlus (ignored : BitVec 2) (s : State) : Settles (.cmdLtimerVirtexIVPlus ignored) s :=
  ⟨_, rfl, fun _ => .of_command (.inr rfl)⟩
theorem settles_cmdBspiReadVirtexIVPlus (ignored : BitVec 2) (s : State) : Settles (.cmdBspiReadVirtexIVPlus ignored) s :=
  ⟨_, rfl, fun _ => .of_command (.inr rfl)⟩
theorem settles_cmdFallEdgeVirtexIVPlus (ignored : BitVec 2) (s : State) : Settles (.cmdFallEdgeVirtexIVPlus ignored) s :=
  ⟨_, rfl, fun _ => .of_command (.inr rfl)⟩
theorem settles_cmdNullSpartan3A (s : State) : Settles .cmdNullSpartan3A s :=
  ⟨_, rfl, fun _ => .of_command (.inl rfl)⟩
theorem settles_cmdWcfgSpartan3A (s : State) : Settles .cmdWcfgSpartan3A s :=
  ⟨_, rfl, fun _ => .of_command (.inl rfl)⟩
theorem settles_cmdMfwrSpartan3A (s : State) : Settles .cmdMfwrSpartan3A s :=
  ⟨_, rfl, fun _ => .of_command (.inl rfl)⟩
theorem settles_cmdLfrmSpartan3A (s : State) : Settles .cmdLfrmSpartan3A s :=
  ⟨_, rfl, fun _ => .of_command (.inl rfl)⟩
theorem settles_cmdRcfgSpartan3A (s : State) : Settles .cmdRcfgSpartan3A s :=
  ⟨_, rfl, fun _ => .of_command (.inl rfl)⟩
theorem settles_cmdStartSpartan3A (s : State) : Settles .cmdStartSpartan3A s :=
  ⟨_, rfl, fun _ => .of_command (.inl rfl)⟩
theorem settles_cmdRcrcSpartan3A (s : State) : Settles .cmdRcrcSpartan3A s :=
  ⟨_, rfl, fun _ => .of_command (.inl rfl)⟩
theorem settles_cmdAghighSpartan3A (s : State) : Settles .cmdAghighSpartan3A s :=
  ⟨_, rfl, fun _ => .of_command (.inl rfl)⟩
theorem settles_cmdGrestoreSpartan3A (s : State) : Settles .cmdGrestoreSpartan3A s :=
  ⟨_, rfl, fun _ => .of_command (.inl rfl)⟩
theorem settles_cmdShutdownSpartan3A (s : State) : Settles .cmdShutdownSpartan3A s :=
  ⟨_, rfl, fun _ => .of_command (.inl rfl)⟩
theorem settles_cmdDesynchSpartan3A (s : State) : Settles .cmdDesynchSpartan3A s :=
  ⟨_, rfl, fun _ => .of_command (.inl rfl)⟩
theorem settles_cmdIprogSpartan3A (s : State) : Settles .cmdIprogSpartan3A s :=
  ⟨_, rfl, fun _ => .of_command (.inl rfl)⟩
theorem settles_cmdNullSpartan6 (s : State) : Settles .cmdNullSpartan6 s :=
  ⟨_, rfl, fun _ => .of_command (.inl rfl)⟩
theorem settles_cmdWcfgSpartan6 (s : State) : Settles .cmdWcfgSpartan6 s :=
  ⟨_, rfl, fun _ => .of_command (.inl rfl)⟩
theorem settles_cmdMfwrSpartan6 (s : State) : Settles .cmdMfwrSpartan6 s :=
  ⟨_, rfl, fun _ => .of_command (.inl rfl)⟩
theorem settles_cmdLfrmSpartan6 (s : State) : Settles .cmdLfrmSpartan6 s :=
  ⟨_, rfl, fun _ => .of_command (.inl rfl)⟩
theorem settles_cmdRcfgSpartan6 (s : State) : Settles .cmdRcfgSpartan6 s :=
  ⟨_, rfl, fun _ => .of_command (.inl rfl)⟩
theorem settles_cmdStartSpartan6 (s : State) : Settles .cmdStartSpartan6 s :=
  ⟨_, rfl, fun _ => .of_command (.inl rfl)⟩
theorem settles_cmdRcrcSpartan6 (s : State) : Settles .cmdRcrcSpartan6 s :=
  ⟨_, rfl, fun _ => .of_command (.inl rfl)⟩
theorem settles_cmdAghighSpartan6 (s : State) : Settles .cmdAghighSpartan6 s :=
  ⟨_, rfl, fun _ => .of_command (.inl rfl)⟩
theorem settles_cmdGrestoreSpartan6 (s : State) : Settles .cmdGrestoreSpartan6 s :=
  ⟨_, rfl, fun _ => .of_command (.inl rfl)⟩
theorem settles_cmdShutdownSpartan6 (s : State) : Settles .cmdShutdownSpartan6 s :=
  ⟨_, rfl, fun _ => .of_command (.inl rfl)⟩
theorem settles_cmdDesynchSpartan6 (s : State) : Settles .cmdDesynchSpartan6 s :=
  ⟨_, rfl, fun _ => .of_command (.inl rfl)⟩
theorem settles_cmdIprogSpartan6 (s : State) : Settles .cmdIprogSpartan6 s :=
  ⟨_, rfl, fun _ => .of_command (.inl rfl)⟩

/-- Every instruction at a header is a settled procedure, and what it yields is one of those above. -/
theorem exec_yields (i : Instr) (s : State) (h : i.place = .header) : Settles i s :=
  match i, h with
  | .autoCrc _, h => absurd (show Place.afterFdri = .header from h) (by decide)
  | .dummy32, _ => settles_dummy32 s
  | .dummy16, _ => settles_dummy16 s
  | .widthDetect, _ => settles_widthDetect s
  | .sync32, _ => settles_sync32 s
  | .sync16, _ => settles_sync16 s
  | .nop32, _ => settles_nop32 s
  | .nop16, _ => settles_nop16 s
  | .t1write32 reg ignored wc, _ => settles_t1write32 reg ignored wc s
  | .t1write16 reg wc, _ => settles_t1write16 reg wc s
  | .t2write wc, _ => settles_t2write wc s
  | .lwrite low, _ => settles_lwrite low s
  | .bugFdri, _ => settles_bugFdri s
  | .writeCrcVirtexOriginal ignored wc, _ => settles_writeCrcVirtexOriginal ignored wc s
  | .writeFarVirtexOriginal ignored wc, _ => settles_writeFarVirtexOriginal ignored wc s
  | .writeFdriVirtexOriginal ignored wc, _ => settles_writeFdriVirtexOriginal ignored wc s
  | .writeCmdVirtexOriginal ignored wc, _ => settles_writeCmdVirtexOriginal ignored wc s
  | .writeCtl0VirtexOriginal ignored wc, _ => settles_writeCtl0VirtexOriginal ignored wc s
  | .writeMaskVirtexOriginal ignored wc, _ => settles_writeMaskVirtexOriginal ignored wc s
  | .writeLoutVirtexOriginal ignored wc, _ => settles_writeLoutVirtexOriginal ignored wc s
  | .writeCor0VirtexOriginal ignored wc, _ => settles_writeCor0VirtexOriginal ignored wc s
  | .writeFlrVirtexOriginal ignored wc, _ => settles_writeFlrVirtexOriginal ignored wc s
  | .writeCrcVirtexII ignored wc, _ => settles_writeCrcVirtexII ignored wc s
  | .writeFarVirtexII ignored wc, _ => settles_writeFarVirtexII ignored wc s
  | .writeFdriVirtexII ignored wc, _ => settles_writeFdriVirtexII ignored wc s
  | .writeCmdVirtexII ignored wc, _ => settles_writeCmdVirtexII ignored wc s
  | .writeCtl0VirtexII ignored wc, _ => settles_writeCtl0VirtexII ignored wc s
  | .writeMaskVirtexII ignored wc, _ => settles_writeMaskVirtexII ignored wc s
  | .writeLoutVirtexII ignored wc, _ => settles_writeLoutVirtexII ignored wc s
  | .writeCor0VirtexII ignored wc, _ => settles_writeCor0VirtexII ignored wc s
  | .writeMfwrVirtexII ignored wc, _ => settles_writeMfwrVirtexII ignored wc s
  | .writeFlrVirtexII ignored wc, _ => settles_writeFlrVirtexII ignored wc s
  | .writeKeyVirtexII ignored wc, _ => settles_writeKeyVirtexII ignored wc s
  | .writeCbcVirtexII ignored wc, _ => settles_writeCbcVirtexII ignored wc s
  | .writeIdcodeVirtexII ignored wc, _ => settles_writeIdcodeVirtexII ignored wc s
  | .writeCrcVirtexIVPlus ignored wc, _ => settles_writeCrcVirtexIVPlus ignored wc s
  | .writeFarVirtexIVPlus ignored wc, _ => settles_writeFarVirtexIVPlus ignored wc s
  | .writeFdriVirtexIVPlus ignored wc, _ => settles_writeFdriVirtexIVPlus ignored wc s
  | .writeCmdVirtexIVPlus ignored wc, _ => settles_writeCmdVirtexIVPlus ignored wc s
  | .writeCtl0VirtexIVPlus ignored wc, _ => settles_writeCtl0VirtexIVPlus ignored wc s
  | .writeMaskVirtexIVPlus ignored wc, _ => settles_writeMaskVirtexIVPlus ignored wc s
  | .writeLoutVirtexIVPlus ignored wc, _ => settles_writeLoutVirtexIVPlus ignored wc s
  | .writeCor0VirtexIVPlus ignored wc, _ => settles_writeCor0VirtexIVPlus ignored wc s
  | .writeMfwrVirtexIVPlus ignored wc, _ => settles_writeMfwrVirtexIVPlus ignored wc s
  | .writeCbcVirtexIVPlus ignored wc, _ => settles_writeCbcVirtexIVPlus ignored wc s
  | .writeIdcodeVirtexIVPlus ignored wc, _ => settles_writeIdcodeVirtexIVPlus ignored wc s
  | .writeAxssVirtexIVPlus ignored wc, _ => settles_writeAxssVirtexIVPlus ignored wc s
  | .writeCor1VirtexIVPlus ignored wc, _ => settles_writeCor1VirtexIVPlus ignored wc s
  | .writeCsobVirtexIVPlus ignored wc, _ => settles_writeCsobVirtexIVPlus ignored wc s
  | .writeWbstarVirtexIVPlus ignored wc, _ => settles_writeWbstarVirtexIVPlus ignored wc s
  | .writeTimerVirtexIVPlus ignored wc, _ => settles_writeTimerVirtexIVPlus ignored wc s
  | .writeRbcrcSwVirtexIVPlus ignored wc, _ => settles_writeRbcrcSwVirtexIVPlus ignored wc s
  | .writeCtl1VirtexIVPlus ignored wc, _ => settles_writeCtl1VirtexIVPlus ignored wc s
  | .writeBspiVirtexIVPlus ignored wc, _ => settles_writeBspiVirtexIVPlus ignored wc s
  | .writeCrcSpartan3A wc, _ => settles_writeCrcSpartan3A wc s
  | .writeFarMajSpartan3A wc, _ => settles_writeFarMajSpartan3A wc s
  | .writeFarMinSpartan3A wc, _ => settles_writeFarMinSpartan3A wc s
  | .writeFdriSpartan3A wc, _ => settles_writeFdriSpartan3A wc s
  | .writeCmdSpartan3A wc, _ => settles_writeCmdSpartan3A wc s
  | .writeCtl0Spartan3A wc, _ => settles_writeCtl0Spartan3A wc s
  | .writeMaskSpartan3A wc, _ => settles_writeMaskSpartan3A wc s
  | .writeLoutSpartan3A wc, _ => settles_writeLoutSpartan3A wc s
  | .writeCor1Spartan3A wc, _ => settles_writeCor1Spartan3A wc s
  | .writeCor2Spartan3A wc, _ => settles_writeCor2Spartan3A wc s
  | .writePwrdnSpartan3A wc, _ => settles_writePwrdnSpartan3A wc s
  | .writeFlrSpartan3A wc, _ => settles_writeFlrSpartan3A wc s
  | .writeIdcodeSpartan3A wc, _ => settles_writeIdcodeSpartan3A wc s
  | .writeSnowplowSpartan3A wc, _ => settles_writeSnowplowSpartan3A wc s
  | .writeHcOptSpartan3A wc, _ => settles_writeHcOptSpartan3A wc s
  | .writeCsboSpartan3A wc, _ => settles_writeCsboSpartan3A wc s
  | .writeGeneral1Spartan3A wc, _ => settles_writeGeneral1Spartan3A wc s
  | .writeGeneral2Spartan3A wc, _ => settles_writeGeneral2Spartan3A wc s
  | .writeModeSpartan3A wc, _ => settles_writeModeSpartan3A wc s
  | .writePuGweSpartan3A wc, _ => settles_writePuGweSpartan3A wc s
  | .writePuGtsSpartan3A wc, _ => settles_writePuGtsSpartan3A wc s
  | .writeMfwrSpartan3A wc, _ => settles_writeMfwrSpartan3A wc s
  | .writeCclkFreqSpartan3A wc, _ => settles_writeCclkFreqSpartan3A wc s
  | .writeSeuOptSpartan3A wc, _ => settles_writeSeuOptSpartan3A wc s
  | .writeExpSignSpartan3A wc, _ => settles_writeExpSignSpartan3A wc s
  | .writeRdbkSignSpartan3A wc, _ => settles_writeRdbkSignSpartan3A wc s
  | .writeCrcSpartan6 wc, _ => settles_writeCrcSpartan6 wc s
  | .writeFarMajSpartan6 wc, _ => settles_writeFarMajSpartan6 wc s
  | .writeFarMinSpartan6 wc, _ => settles_writeFarMinSpartan6 wc s
  | .writeFdriSpartan6 wc, _ => settles_writeFdriSpartan6 wc s
  | .writeCmdSpartan6 wc, _ => settles_writeCmdSpartan6 wc s
  | .writeCtl0Spartan6 wc, _ => settles_writeCtl0Spartan6 wc s
  | .writeMaskSpartan6 wc, _ => settles_writeMaskSpartan6 wc s
  | .writeLoutSpartan6 wc, _ => settles_writeLoutSpartan6 wc s
  | .writeCor1Spartan6 wc, _ => settles_writeCor1Spartan6 wc s
  | .writeCor2Spartan6 wc, _ => settles_writeCor2Spartan6 wc s
  | .writePwrdnSpartan6 wc, _ => settles_writePwrdnSpartan6 wc s
  | .writeFlrSpartan6 wc, _ => settles_writeFlrSpartan6 wc s
  | .writeIdcodeSpartan6 wc, _ => settles_writeIdcodeSpartan6 wc s
  | .writeCwdtSpartan6 wc, _ => settles_writeCwdtSpartan6 wc s
  | .writeHcOptSpartan6 wc, _ => settles_writeHcOptSpartan6 wc s
  | .writeCsboSpartan6 wc, _ => settles_writeCsboSpartan6 wc s
  | .writeGeneral1Spartan6 wc, _ => settles_writeGeneral1Spartan6 wc s
  | .writeGeneral2Spartan6 wc, _ => settles_writeGeneral2Spartan6 wc s
  | .writeGeneral3Spartan6 wc, _ => settles_writeGeneral3Spartan6 wc s
  | .writeGeneral4Spartan6 wc, _ => settles_writeGeneral4Spartan6 wc s
  | .writeGeneral5Spartan6 wc, _ => settles_writeGeneral5Spartan6 wc s
  | .writeModeSpartan6 wc, _ => settles_writeModeSpartan6 wc s
  | .writePuGweSpartan6 wc, _ => settles_writePuGweSpartan6 wc s
  | .writePuGtsSpartan6 wc, _ => settles_writePuGtsSpartan6 wc s
  | .writeMfwrSpartan6 wc, _ => settles_writeMfwrSpartan6 wc s
  | .writeCclkFreqSpartan6 wc, _ => settles_writeCclkFreqSpartan6 wc s
  | .writeSeuOptSpartan6 wc, _ => settles_writeSeuOptSpartan6 wc s
  | .writeExpSignSpartan6 wc, _ => settles_writeExpSignSpartan6 wc s
  | .writeRdbkSignSpartan6 wc, _ => settles_writeRdbkSignSpartan6 wc s
  | .writeEyeMaskSpartan6 wc, _ => settles_writeEyeMaskSpartan6 wc s
  | .writeCbcRegSpartan6 wc, _ => settles_writeCbcRegSpartan6 wc s
  | .cmdNullVirtexOriginal ignored, _ => settles_cmdNullVirtexOriginal ignored s
  | .cmdWcfgVirtexOriginal ignored, _ => settles_cmdWcfgVirtexOriginal ignored s
  | .cmdLfrmVirtexOriginal ignored, _ => settles_cmdLfrmVirtexOriginal ignored s
  | .cmdRcfgVirtexOriginal ignored, _ => settles_cmdRcfgVirtexOriginal ignored s
  | .cmdStartVirtexOriginal ignored, _ => settles_cmdStartVirtexOriginal ignored s
  | .cmdRcapVirtexOriginal ignored, _ => settles_cmdRcapVirtexOriginal ignored s
  | .cmdRcrcVirtexOriginal ignored, _ => settles_cmdRcrcVirtexOriginal ignored s
  | .cmdAghighVirtexOriginal ignored, _ => settles_cmdAghighVirtexOriginal ignored s
  | .cmdSwitchVirtexOriginal ignored, _ => settles_cmdSwitchVirtexOriginal ignored s
  | .cmdNullVirtexII ignored, _ => settles_cmdNullVirtexII ignored s
  | .cmdWcfgVirtexII ignored, _ => settles_cmdWcfgVirtexII ignored s
  | .cmdMfwrVirtexII ignored, _ => settles_cmdMfwrVirtexII ignored s
  | .cmdLfrmVirtexII ignored, _ => settles_cmdLfrmVirtexII ignored s
  | .cmdRcfgVirtexII ignored, _ => settles_cmdRcfgVirtexII ignored s
  | .cmdStartVirtexII ignored, _ => settles_cmdStartVirtexII ignored s
  | .cmdRcapVirtexII ignored, _ => settles_cmdRcapVirtexII ignored s
  | .cmdRcrcVirtexII ignored, _ => settles_cmdRcrcVirtexII ignored s
  | .cmdAghighVirtexII ignored, _ => settles_cmdAghighVirtexII ignored s
  | .cmdSwitchVirtexII ignored, _ => settles_cmdSwitchVirtexII ignored s
  | .cmdGrestoreVirtexII ignored, _ => settles_cmdGrestoreVirtexII ignored s
  | .cmdShutdownVirtexII ignored, _ => settles_cmdShutdownVirtexII ignored s
  | .cmdGcaptureVirtexII ignored, _ => settles_cmdGcaptureVirtexII ignored s
  | .cmdDesynchVirtexII ignored, _ => settles_cmdDesynchVirtexII ignored s
  | .cmdNullVirtexIVPlus ignored, _ => settles_cmdNullVirtexIVPlus ignored s
  | .cmdWcfgVirtexIVPlus ignored, _ => settles_cmdWcfgVirtexIVPlus ignored s
  | .cmdMfwrVirtexIVPlus ignored, _ => settles_cmdMfwrVirtexIVPlus ignored s
  | .cmdLfrmVirtexIVPlus ignored, _ => settles_cmdLfrmVirtexIVPlus ignored s
  | .cmdRcfgVirtexIVPlus ignored, _ => settles_cmdRcfgVirtexIVPlus ignored s
  | .cmdStartVirtexIVPlus ignored, _ => settles_cmdStartVirtexIVPlus ignored s
  | .cmdRcapVirtexIVPlus ignored, _ => settles_cmdRcapVirtexIVPlus ignored s
  | .cmdRcrcVirtexIVPlus ignored, _ => settles_cmdRcrcVirtexIVPlus ignored s
  | .cmdAghighVirtexIVPlus ignored, _ => settles_cmdAghighVirtexIVPlus ignored s
  | .cmdSwitchVirtexIVPlus ignored, _ => settles_cmdSwitchVirtexIVPlus ignored s
  | .cmdGrestoreVirtexIVPlus ignored, _ => settles_cmdGrestoreVirtexIVPlus ignored s
  | .cmdShutdownVirtexIVPlus ignored, _ => settles_cmdShutdownVirtexIVPlus ignored s
  | .cmdGcaptureVirtexIVPlus ignored, _ => settles_cmdGcaptureVirtexIVPlus ignored s
  | .cmdDesynchVirtexIVPlus ignored, _ => settles_cmdDesynchVirtexIVPlus ignored s
  | .cmdIprogVirtexIVPlus ignored, _ => settles_cmdIprogVirtexIVPlus ignored s
  | .cmdCrccVirtexIVPlus ignored, _ => settles_cmdCrccVirtexIVPlus ignored s
  | .cmdLtimerVirtexIVPlus ignored, _ => settles_cmdLtimerVirtexIVPlus ignored s
  | .cmdBspiReadVirtexIVPlus ignored, _ => settles_cmdBspiReadVirtexIVPlus ignored s
  | .cmdFallEdgeVirtexIVPlus ignored, _ => settles_cmdFallEdgeVirtexIVPlus ignored s
  | .cmdNullSpartan3A, _ => settles_cmdNullSpartan3A s
  | .cmdWcfgSpartan3A, _ => settles_cmdWcfgSpartan3A s
  | .cmdMfwrSpartan3A, _ => settles_cmdMfwrSpartan3A s
  | .cmdLfrmSpartan3A, _ => settles_cmdLfrmSpartan3A s
  | .cmdRcfgSpartan3A, _ => settles_cmdRcfgSpartan3A s
  | .cmdStartSpartan3A, _ => settles_cmdStartSpartan3A s
  | .cmdRcrcSpartan3A, _ => settles_cmdRcrcSpartan3A s
  | .cmdAghighSpartan3A, _ => settles_cmdAghighSpartan3A s
  | .cmdGrestoreSpartan3A, _ => settles_cmdGrestoreSpartan3A s
  | .cmdShutdownSpartan3A, _ => settles_cmdShutdownSpartan3A s
  | .cmdDesynchSpartan3A, _ => settles_cmdDesynchSpartan3A s
  | .cmdIprogSpartan3A, _ => settles_cmdIprogSpartan3A s
  | .cmdNullSpartan6, _ => settles_cmdNullSpartan6 s
  | .cmdWcfgSpartan6, _ => settles_cmdWcfgSpartan6 s
  | .cmdMfwrSpartan6, _ => settles_cmdMfwrSpartan6 s
  | .cmdLfrmSpartan6, _ => settles_cmdLfrmSpartan6 s
  | .cmdRcfgSpartan6, _ => settles_cmdRcfgSpartan6 s
  | .cmdStartSpartan6, _ => settles_cmdStartSpartan6 s
  | .cmdRcrcSpartan6, _ => settles_cmdRcrcSpartan6 s
  | .cmdAghighSpartan6, _ => settles_cmdAghighSpartan6 s
  | .cmdGrestoreSpartan6, _ => settles_cmdGrestoreSpartan6 s
  | .cmdShutdownSpartan6, _ => settles_cmdShutdownSpartan6 s
  | .cmdDesynchSpartan6, _ => settles_cmdDesynchSpartan6 s
  | .cmdIprogSpartan6, _ => settles_cmdIprogSpartan6 s

/-- What an instruction at a header can answer: a commit or an error. -/
theorem exec_cases (i : Instr) (s : State) (h : i.place = .header) :
    (∃ y, YieldsFrom s y ∧ exec i s = .next (s.commit y)) ∨ ∃ k a, exec i s = .next (s.fail k a) := by
  obtain ⟨r, hr, hy⟩ := exec_yields i s h
  rw [hr]
  match r, hy with
  | .ok y, hy => exact .inl ⟨y, hy y rfl, rfl⟩
  | .error (.raise k a), _ => exact .inr ⟨k, a, rfl⟩

/-- What AUTOCRC on its own can answer. -/
theorem exec_autoCrc_cases (v : BitVec 32) (s : State) :
    (∃ h, s.autoCrc = true ∧ fdriPacketOffset s = some h ∧ s.position + 4 ≤ s.buf.len ∧
      exec (.autoCrc v) s =
        .next
          { s with
            position := s.position + 4
            checksum := afterAutoCheck v s.checksum
            results := attachEvent s.results (crcCheck s.position (.bits32 v) s.checksum) }) ∨
    (∃ h, exec (.autoCrc v) s = .next (s.fail .truncated h)) ∨
    exec (.autoCrc v) s = .next (s.fail .unexpectedWord s.position) := by
  have e : exec (.autoCrc v) s = .next (autoWord s v) := rfl
  rw [e]
  unfold autoWord
  split
  · rename_i ha hf
    split
    · exact .inl ⟨_, ha, hf, ‹_›, rfl⟩
    · exact .inr (.inl ⟨_, rfl⟩)
  · exact .inr (.inr rfl)

/-- What a step can do: nothing once stopped, the end, a partial word, an illegal word, or the decoded instruction. -/
theorem step_cases (s : State) :
    (s.status ≠ .running ∧ step s = .next s) ∨
    (s.status = .running ∧ s.position = s.buf.len ∧ step s = .next s.finish) ∨
    (s.status = .running ∧ s.position ≠ s.buf.len ∧ s.buf.len - s.position < s.kind.wordBytes ∧
      step s = .next (s.fail .truncated s.position)) ∨
    (s.status = .running ∧ s.kind.wordBytes ≤ s.buf.len - s.position ∧
      (∃ r, decode s.cfg s.kind .header s.fetchBytes = .error r) ∧
      step s = .next (s.fail .unexpectedWord s.position)) ∨
    (s.status = .running ∧ s.kind.wordBytes ≤ s.buf.len - s.position ∧
      ∃ i, decode s.cfg s.kind .header s.fetchBytes = .ok i ∧ step s = exec i s) := by
  unfold step fetch
  split
  · rename_i t ht
    split at ht
    · split at ht
      · exact .inr (.inl ⟨‹_›, ‹_›, by cases ht; rfl⟩)
      · split at ht
        · exact .inr (.inr (.inl ⟨‹_›, ‹_›, ‹_›, by cases ht; rfl⟩))
        · split at ht
          · cases ht
          · exact .inr (.inr (.inr (.inl ⟨‹_›, by omega, ⟨_, ‹_›⟩, by cases ht; rfl⟩)))
    · exact .inl ⟨‹_›, by cases ht; rfl⟩
  · rename_i i hi
    split at hi
    · split at hi
      · cases hi
      · split at hi
        · cases hi
        · split at hi
          · exact .inr (.inr (.inr (.inr ⟨‹_›, by omega, i, by cases hi; assumption, rfl⟩)))
          · cases hi
    · cases hi

end Sys2Proof.Machine
end

