-- ==== Sys2Proof/Tests/Slice0.lean ====
section
/-!
SUPPORT. Small tests: ill-formed instructions, one decoded word for every row of the opcode table (the bytes are the table's
own), one-step examples of the spec (the rule of each example is named), and a witness for each statement that has hypotheses.
-/

namespace Sys2Proof.Tests

open Sys2Proof.Machine

/-- The default configuration, both OPEN parameters empty (R9). -/
def cfg : Config := Config.standard ⟨[], [], [], [], []⟩ []

/-- The default configuration with auto-checksums in two kinds (R173's examples). -/
def cfgAuto : Config := Config.standard ⟨[], [], [], [], []⟩ [.virtexIVPlus, .spartan6]

/-- The default configuration with the 16-bit long write's register taken from its header (R172). -/
def cfgField : Config := { cfg with lw16RegSource := .headerField }

/-- A synced session at position 0 of a buffer. -/
def synced (k : DeviceKind) (c : Config) (bs : List Byte) : State :=
  { State.start k c (Memory.ofBytes bs) with synced := true }

/-- An unsynced session at position 0 of a buffer. -/
def unsynced (k : DeviceKind) (bs : List Byte) : State := State.start k cfg (Memory.ofBytes bs)

/-- Whether an outcome is a next state with a property. -/
def nextIs (o : Host.Outcome State Fault Refusal) (p : State → Bool) : Bool :=
  match o with
  | .next t => p t
  | .fault _ => false
  | .refused _ => false

/-- Whether bytes at a header decode to an instruction under the default configuration. -/
def decodesTo (k : DeviceKind) (bs : List Byte) (i : Instr) : Bool :=
  match decode cfg k .header bs with
  | .ok j => j == i
  | .error _ => false

/-! ## Well-formedness -/

theorem test_wf_word32_refused_in_a_16_bit_kind : Instr.nop32.wf cfg .spartan6 = false := by decide
theorem test_wf_word16_refused_in_a_32_bit_kind : Instr.nop16.wf cfg .virtexII = false := by decide
theorem test_wf_wide_type1_refused_in_a_16_bit_kind : (Instr.t1write32 3 0 1).wf cfg .spartan6 = false := by decide
theorem test_wf_wide_type1_refused_for_a_row : (Instr.t1write32 4 0 1).wf cfg .virtexII = false := by decide
theorem test_wf_narrow_type1_refused_in_a_32_bit_kind : (Instr.t1write16 4 1).wf cfg .virtexII = false := by decide
theorem test_wf_narrow_type1_refused_for_a_row : (Instr.t1write16 5 1).wf cfg .spartan6 = false := by decide
theorem test_wf_write_row_refused_in_another_kind :
    (Instr.writeFarVirtexII 0 1).wf cfg .virtexOriginal = false := by decide
theorem test_wf_write_row_refused_without_its_entry :
    (Instr.writeFarVirtexII 0 1).wf { cfg with regTable := ⟨[], [], [], [], []⟩ } .virtexII = false := by decide
theorem test_wf_command_row_refused_in_another_kind :
    (Instr.cmdNullVirtexII 0).wf cfg .virtexIVPlus = false := by decide
theorem test_wf_command_row_refused_without_its_code :
    (Instr.cmdNullVirtexII 0).wf { cfg with cmdTable := ⟨[], [], [], [], []⟩ } .virtexII = false := by decide
theorem test_wf_command_row_refused_without_the_register :
    (Instr.cmdNullVirtexII 0).wf { cfg with regTable := ⟨[], [], [], [], []⟩ } .virtexII = false := by decide
theorem test_wf_accepts_each_form :
    [Instr.nop32, .t1write32 3 0 1, .autoCrc 0, .writeFarVirtexII 0 1, .cmdNullVirtexII 0].all
      (Instr.wf cfg .virtexII) = true := by decide

/-! ## Decoding: a word for every row, as spec/opcode_table.json has it -/

/-- The framing words, Nop, the generic headers and the long writes (R60 to R66, R91 to R96). -/
theorem test_decode_generic_rows :
    (decodesTo .virtexII [0xFF, 0xFF, 0xFF, 0xFF] .dummy32
      && decodesTo .spartan6 [0xFF, 0xFF] .dummy16
      && decodesTo .virtexII [0x00, 0x00, 0x00, 0xBB, 0x11, 0x22, 0x00, 0x44] .widthDetect
      && decodesTo .virtexII [0xAA, 0x99, 0x55, 0x66] .sync32
      && decodesTo .spartan6 [0xAA, 0x99] .sync16
      && decodesTo .virtexII [0x20, 0x00, 0x00, 0x00] .nop32
      && decodesTo .spartan6 [0x20, 0x00] .nop16
      && decodesTo .virtexII [0x30, 0x00, 0x60, 0x05] (.t1write32 3 0 5)
      && decodesTo .virtexII [0x37, 0xFF, 0xFF, 0xFF] (.t1write32 0x3FFF 3 0x7FF)
      && decodesTo .spartan6 [0x30, 0x82] (.t1write16 4 2)
      && decodesTo .spartan6 [0x37, 0xFF] (.t1write16 63 31)
      && decodesTo .virtexII [0x50, 0x00, 0x00, 0x02] (.t2write 2)
      && decodesTo .virtexII [0x57, 0xFF, 0xFF, 0xFF] (.t2write 0x7FFFFFF)
      && decodesTo .spartan6 [0x50, 0x60] (.lwrite 0x60)
      && decodesTo .virtexII [0x00, 0x00, 0x00, 0x00] .bugFdri
      && decide (decode cfg .virtexIVPlus .afterFdri [0xD5, 0x39, 0xCC, 0xFE] = .ok (.autoCrc 0xD539CCFE))) = true := by
  decide

/-- A read, a reserved `op`, another type are no instruction (R67, R68). -/
theorem test_decode_refuses_illegal_headers :
    ([[0x28, 0x00, 0x80, 0x01], [0x38, 0x00, 0x80, 0x01], [0x20, 0x00, 0x00, 0x01], [0x48, 0x00, 0x00, 0x01],
      [0x60, 0x00, 0x00, 0x00], [0x00, 0x00, 0x00, 0x01]] : List (List Byte)).all
      (fun bs => match decode cfg .virtexII .header bs with
        | .ok _ => false
        | .error _ => true) = true := by decide

/-- The `WRITE_` rows of VirtexOriginal, with every ignored bit set and a word count of 3 (R60, R64, R73). -/
theorem test_decode_write_rows_VirtexOriginal :
    ([
      ([0x30, 0x00, 0x18, 0x03], .writeCrcVirtexOriginal 3 3),
      ([0x30, 0x00, 0x38, 0x03], .writeFarVirtexOriginal 3 3),
      ([0x30, 0x00, 0x58, 0x03], .writeFdriVirtexOriginal 3 3),
      ([0x30, 0x00, 0x98, 0x03], .writeCmdVirtexOriginal 3 3),
      ([0x30, 0x00, 0xB8, 0x03], .writeCtl0VirtexOriginal 3 3),
      ([0x30, 0x00, 0xD8, 0x03], .writeMaskVirtexOriginal 3 3),
      ([0x30, 0x01, 0x18, 0x03], .writeLoutVirtexOriginal 3 3),
      ([0x30, 0x01, 0x38, 0x03], .writeCor0VirtexOriginal 3 3),
      ([0x30, 0x01, 0x78, 0x03], .writeFlrVirtexOriginal 3 3)] : List (List Byte × Instr)).all
      (fun r => decodesTo .virtexOriginal r.1 r.2) = true := by decide

/-- The `WRITE_` rows of VirtexII, with every ignored bit set and a word count of 3 (R60, R64, R73). -/
theorem test_decode_write_rows_VirtexII :
    ([
      ([0x30, 0x00, 0x18, 0x03], .writeCrcVirtexII 3 3),
      ([0x30, 0x00, 0x38, 0x03], .writeFarVirtexII 3 3),
      ([0x30, 0x00, 0x58, 0x03], .writeFdriVirtexII 3 3),
      ([0x30, 0x00, 0x98, 0x03], .writeCmdVirtexII 3 3),
      ([0x30, 0x00, 0xB8, 0x03], .writeCtl0VirtexII 3 3),
      ([0x30, 0x00, 0xD8, 0x03], .writeMaskVirtexII 3 3),
      ([0x30, 0x01, 0x18, 0x03], .writeLoutVirtexII 3 3),
      ([0x30, 0x01, 0x38, 0x03], .writeCor0VirtexII 3 3),
      ([0x30, 0x01, 0x58, 0x03], .writeMfwrVirtexII 3 3),
      ([0x30, 0x01, 0x78, 0x03], .writeFlrVirtexII 3 3),
      ([0x30, 0x01, 0x98, 0x03], .writeKeyVirtexII 3 3),
      ([0x30, 0x01, 0xB8, 0x03], .writeCbcVirtexII 3 3),
      ([0x30, 0x01, 0xD8, 0x03], .writeIdcodeVirtexII 3 3)] : List (List Byte × Instr)).all
      (fun r => decodesTo .virtexII r.1 r.2) = true := by decide

/-- The `WRITE_` rows of VirtexIVPlus, with every ignored bit set and a word count of 3 (R60, R64, R73). -/
theorem test_decode_write_rows_VirtexIVPlus :
    ([
      ([0x30, 0x00, 0x18, 0x03], .writeCrcVirtexIVPlus 3 3),
      ([0x30, 0x00, 0x38, 0x03], .writeFarVirtexIVPlus 3 3),
      ([0x30, 0x00, 0x58, 0x03], .writeFdriVirtexIVPlus 3 3),
      ([0x30, 0x00, 0x98, 0x03], .writeCmdVirtexIVPlus 3 3),
      ([0x30, 0x00, 0xB8, 0x03], .writeCtl0VirtexIVPlus 3 3),
      ([0x30, 0x00, 0xD8, 0x03], .writeMaskVirtexIVPlus 3 3),
      ([0x30, 0x01, 0x18, 0x03], .writeLoutVirtexIVPlus 3 3),
      ([0x30, 0x01, 0x38, 0x03], .writeCor0VirtexIVPlus 3 3),
      ([0x30, 0x01, 0x58, 0x03], .writeMfwrVirtexIVPlus 3 3),
      ([0x30, 0x01, 0x78, 0x03], .writeCbcVirtexIVPlus 3 3),
      ([0x30, 0x01, 0x98, 0x03], .writeIdcodeVirtexIVPlus 3 3),
      ([0x30, 0x01, 0xB8, 0x03], .writeAxssVirtexIVPlus 3 3),
      ([0x30, 0x01, 0xD8, 0x03], .writeCor1VirtexIVPlus 3 3),
      ([0x30, 0x01, 0xF8, 0x03], .writeCsobVirtexIVPlus 3 3),
      ([0x30, 0x02, 0x18, 0x03], .writeWbstarVirtexIVPlus 3 3),
      ([0x30, 0x02, 0x38, 0x03], .writeTimerVirtexIVPlus 3 3),
      ([0x30, 0x02, 0x78, 0x03], .writeRbcrcSwVirtexIVPlus 3 3),
      ([0x30, 0x03, 0x18, 0x03], .writeCtl1VirtexIVPlus 3 3),
      ([0x30, 0x03, 0xF8, 0x03], .writeBspiVirtexIVPlus 3 3)] : List (List Byte × Instr)).all
      (fun r => decodesTo .virtexIVPlus r.1 r.2) = true := by decide

/-- The `WRITE_` rows of Spartan3A, with every ignored bit set and a word count of 3 (R60, R64, R73). -/
theorem test_decode_write_rows_Spartan3A :
    ([
      ([0x30, 0x03], .writeCrcSpartan3A 3),
      ([0x30, 0x23], .writeFarMajSpartan3A 3),
      ([0x30, 0x43], .writeFarMinSpartan3A 3),
      ([0x30, 0x63], .writeFdriSpartan3A 3),
      ([0x30, 0xA3], .writeCmdSpartan3A 3),
      ([0x30, 0xC3], .writeCtl0Spartan3A 3),
      ([0x30, 0xE3], .writeMaskSpartan3A 3),
      ([0x31, 0x23], .writeLoutSpartan3A 3),
      ([0x31, 0x43], .writeCor1Spartan3A 3),
      ([0x31, 0x63], .writeCor2Spartan3A 3),
      ([0x31, 0x83], .writePwrdnSpartan3A 3),
      ([0x31, 0xA3], .writeFlrSpartan3A 3),
      ([0x31, 0xC3], .writeIdcodeSpartan3A 3),
      ([0x31, 0xE3], .writeSnowplowSpartan3A 3),
      ([0x32, 0x03], .writeHcOptSpartan3A 3),
      ([0x32, 0x43], .writeCsboSpartan3A 3),
      ([0x32, 0x63], .writeGeneral1Spartan3A 3),
      ([0x32, 0x83], .writeGeneral2Spartan3A 3),
      ([0x32, 0xA3], .writeModeSpartan3A 3),
      ([0x32, 0xC3], .writePuGweSpartan3A 3),
      ([0x32, 0xE3], .writePuGtsSpartan3A 3),
      ([0x33, 0x03], .writeMfwrSpartan3A 3),
      ([0x33, 0x23], .writeCclkFreqSpartan3A 3),
      ([0x33, 0x43], .writeSeuOptSpartan3A 3),
      ([0x33, 0x63], .writeExpSignSpartan3A 3),
      ([0x33, 0x83], .writeRdbkSignSpartan3A 3)] : List (List Byte × Instr)).all
      (fun r => decodesTo .spartan3A r.1 r.2) = true := by decide

/-- The `WRITE_` rows of Spartan6, with every ignored bit set and a word count of 3 (R60, R64, R73). -/
theorem test_decode_write_rows_Spartan6 :
    ([
      ([0x30, 0x03], .writeCrcSpartan6 3),
      ([0x30, 0x23], .writeFarMajSpartan6 3),
      ([0x30, 0x43], .writeFarMinSpartan6 3),
      ([0x30, 0x63], .writeFdriSpartan6 3),
      ([0x30, 0xA3], .writeCmdSpartan6 3),
      ([0x30, 0xC3], .writeCtl0Spartan6 3),
      ([0x30, 0xE3], .writeMaskSpartan6 3),
      ([0x31, 0x23], .writeLoutSpartan6 3),
      ([0x31, 0x43], .writeCor1Spartan6 3),
      ([0x31, 0x63], .writeCor2Spartan6 3),
      ([0x31, 0x83], .writePwrdnSpartan6 3),
      ([0x31, 0xA3], .writeFlrSpartan6 3),
      ([0x31, 0xC3], .writeIdcodeSpartan6 3),
      ([0x31, 0xE3], .writeCwdtSpartan6 3),
      ([0x32, 0x03], .writeHcOptSpartan6 3),
      ([0x32, 0x43], .writeCsboSpartan6 3),
      ([0x32, 0x63], .writeGeneral1Spartan6 3),
      ([0x32, 0x83], .writeGeneral2Spartan6 3),
      ([0x32, 0xA3], .writeGeneral3Spartan6 3),
      ([0x32, 0xC3], .writeGeneral4Spartan6 3),
      ([0x32, 0xE3], .writeGeneral5Spartan6 3),
      ([0x33, 0x03], .writeModeSpartan6 3),
      ([0x33, 0x23], .writePuGweSpartan6 3),
      ([0x33, 0x43], .writePuGtsSpartan6 3),
      ([0x33, 0x63], .writeMfwrSpartan6 3),
      ([0x33, 0x83], .writeCclkFreqSpartan6 3),
      ([0x33, 0xA3], .writeSeuOptSpartan6 3),
      ([0x33, 0xC3], .writeExpSignSpartan6 3),
      ([0x33, 0xE3], .writeRdbkSignSpartan6 3),
      ([0x34, 0x23], .writeEyeMaskSpartan6 3),
      ([0x34, 0x43], .writeCbcRegSpartan6 3)] : List (List Byte × Instr)).all
      (fun r => decodesTo .spartan6 r.1 r.2) = true := by decide

/-- The `CMD_` rows of VirtexOriginal (R107, R146). -/
theorem test_decode_command_rows_VirtexOriginal :
    ([
      ([0x30, 0x00, 0x80, 0x01, 0x00, 0x00, 0x00, 0x00], .cmdNullVirtexOriginal 0),
      ([0x30, 0x00, 0x80, 0x01, 0x00, 0x00, 0x00, 0x01], .cmdWcfgVirtexOriginal 0),
      ([0x30, 0x00, 0x80, 0x01, 0x00, 0x00, 0x00, 0x03], .cmdLfrmVirtexOriginal 0),
      ([0x30, 0x00, 0x80, 0x01, 0x00, 0x00, 0x00, 0x04], .cmdRcfgVirtexOriginal 0),
      ([0x30, 0x00, 0x80, 0x01, 0x00, 0x00, 0x00, 0x05], .cmdStartVirtexOriginal 0),
      ([0x30, 0x00, 0x80, 0x01, 0x00, 0x00, 0x00, 0x06], .cmdRcapVirtexOriginal 0),
      ([0x30, 0x00, 0x80, 0x01, 0x00, 0x00, 0x00, 0x07], .cmdRcrcVirtexOriginal 0),
      ([0x30, 0x00, 0x80, 0x01, 0x00, 0x00, 0x00, 0x08], .cmdAghighVirtexOriginal 0),
      ([0x30, 0x00, 0x80, 0x01, 0x00, 0x00, 0x00, 0x09], .cmdSwitchVirtexOriginal 0)] : List (List Byte × Instr)).all
      (fun r => decodesTo .virtexOriginal r.1 r.2) = true := by decide

/-- The `CMD_` rows of VirtexII (R107, R146). -/
theorem test_decode_command_rows_VirtexII :
    ([
      ([0x30, 0x00, 0x80, 0x01, 0x00, 0x00, 0x00, 0x00], .cmdNullVirtexII 0),
      ([0x30, 0x00, 0x80, 0x01, 0x00, 0x00, 0x00, 0x01], .cmdWcfgVirtexII 0),
      ([0x30, 0x00, 0x80, 0x01, 0x00, 0x00, 0x00, 0x02], .cmdMfwrVirtexII 0),
      ([0x30, 0x00, 0x80, 0x01, 0x00, 0x00, 0x00, 0x03], .cmdLfrmVirtexII 0),
      ([0x30, 0x00, 0x80, 0x01, 0x00, 0x00, 0x00, 0x04], .cmdRcfgVirtexII 0),
      ([0x30, 0x00, 0x80, 0x01, 0x00, 0x00, 0x00, 0x05], .cmdStartVirtexII 0),
      ([0x30, 0x00, 0x80, 0x01, 0x00, 0x00, 0x00, 0x06], .cmdRcapVirtexII 0),
      ([0x30, 0x00, 0x80, 0x01, 0x00, 0x00, 0x00, 0x07], .cmdRcrcVirtexII 0),
      ([0x30, 0x00, 0x80, 0x01, 0x00, 0x00, 0x00, 0x08], .cmdAghighVirtexII 0),
      ([0x30, 0x00, 0x80, 0x01, 0x00, 0x00, 0x00, 0x09], .cmdSwitchVirtexII 0),
      ([0x30, 0x00, 0x80, 0x01, 0x00, 0x00, 0x00, 0x0A], .cmdGrestoreVirtexII 0),
      ([0x30, 0x00, 0x80, 0x01, 0x00, 0x00, 0x00, 0x0B], .cmdShutdownVirtexII 0),
      ([0x30, 0x00, 0x80, 0x01, 0x00, 0x00, 0x00, 0x0C], .cmdGcaptureVirtexII 0),
      ([0x30, 0x00, 0x80, 0x01, 0x00, 0x00, 0x00, 0x0D], .cmdDesynchVirtexII 0)] : List (List Byte × Instr)).all
      (fun r => decodesTo .virtexII r.1 r.2) = true := by decide

/-- The `CMD_` rows of VirtexIVPlus (R107, R146). -/
theorem test_decode_command_rows_VirtexIVPlus :
    ([
      ([0x30, 0x00, 0x80, 0x01, 0x00, 0x00, 0x00, 0x00], .cmdNullVirtexIVPlus 0),
      ([0x30, 0x00, 0x80, 0x01, 0x00, 0x00, 0x00, 0x01], .cmdWcfgVirtexIVPlus 0),
      ([0x30, 0x00, 0x80, 0x01, 0x00, 0x00, 0x00, 0x02], .cmdMfwrVirtexIVPlus 0),
      ([0x30, 0x00, 0x80, 0x01, 0x00, 0x00, 0x00, 0x03], .cmdLfrmVirtexIVPlus 0),
      ([0x30, 0x00, 0x80, 0x01, 0x00, 0x00, 0x00, 0x04], .cmdRcfgVirtexIVPlus 0),
      ([0x30, 0x00, 0x80, 0x01, 0x00, 0x00, 0x00, 0x05], .cmdStartVirtexIVPlus 0),
      ([0x30, 0x00, 0x80, 0x01, 0x00, 0x00, 0x00, 0x06], .cmdRcapVirtexIVPlus 0),
      ([0x30, 0x00, 0x80, 0x01, 0x00, 0x00, 0x00, 0x07], .cmdRcrcVirtexIVPlus 0),
      ([0x30, 0x00, 0x80, 0x01, 0x00, 0x00, 0x00, 0x08], .cmdAghighVirtexIVPlus 0),
      ([0x30, 0x00, 0x80, 0x01, 0x00, 0x00, 0x00, 0x09], .cmdSwitchVirtexIVPlus 0),
      ([0x30, 0x00, 0x80, 0x01, 0x00, 0x00, 0x00, 0x0A], .cmdGrestoreVirtexIVPlus 0),
      ([0x30, 0x00, 0x80, 0x01, 0x00, 0x00, 0x00, 0x0B], .cmdShutdownVirtexIVPlus 0),
      ([0x30, 0x00, 0x80, 0x01, 0x00, 0x00, 0x00, 0x0C], .cmdGcaptureVirtexIVPlus 0),
      ([0x30, 0x00, 0x80, 0x01, 0x00, 0x00, 0x00, 0x0D], .cmdDesynchVirtexIVPlus 0),
      ([0x30, 0x00, 0x80, 0x01, 0x00, 0x00, 0x00, 0x0F], .cmdIprogVirtexIVPlus 0),
      ([0x30, 0x00, 0x80, 0x01, 0x00, 0x00, 0x00, 0x10], .cmdCrccVirtexIVPlus 0),
      ([0x30, 0x00, 0x80, 0x01, 0x00, 0x00, 0x00, 0x11], .cmdLtimerVirtexIVPlus 0),
      ([0x30, 0x00, 0x80, 0x01, 0x00, 0x00, 0x00, 0x12], .cmdBspiReadVirtexIVPlus 0),
      ([0x30, 0x00, 0x80, 0x01, 0x00, 0x00, 0x00, 0x13], .cmdFallEdgeVirtexIVPlus 0)] : List (List Byte × Instr)).all
      (fun r => decodesTo .virtexIVPlus r.1 r.2) = true := by decide

/-- The `CMD_` rows of Spartan3A (R107, R146). -/
theorem test_decode_command_rows_Spartan3A :
    ([
      ([0x30, 0xA1, 0x00, 0x00], .cmdNullSpartan3A),
      ([0x30, 0xA1, 0x00, 0x01], .cmdWcfgSpartan3A),
      ([0x30, 0xA1, 0x00, 0x02], .cmdMfwrSpartan3A),
      ([0x30, 0xA1, 0x00, 0x03], .cmdLfrmSpartan3A),
      ([0x30, 0xA1, 0x00, 0x04], .cmdRcfgSpartan3A),
      ([0x30, 0xA1, 0x00, 0x05], .cmdStartSpartan3A),
      ([0x30, 0xA1, 0x00, 0x07], .cmdRcrcSpartan3A),
      ([0x30, 0xA1, 0x00, 0x08], .cmdAghighSpartan3A),
      ([0x30, 0xA1, 0x00, 0x0A], .cmdGrestoreSpartan3A),
      ([0x30, 0xA1, 0x00, 0x0B], .cmdShutdownSpartan3A),
      ([0x30, 0xA1, 0x00, 0x0D], .cmdDesynchSpartan3A),
      ([0x30, 0xA1, 0x00, 0x0E], .cmdIprogSpartan3A)] : List (List Byte × Instr)).all
      (fun r => decodesTo .spartan3A r.1 r.2) = true := by decide

/-- The `CMD_` rows of Spartan6 (R107, R146). -/
theorem test_decode_command_rows_Spartan6 :
    ([
      ([0x30, 0xA1, 0x00, 0x00], .cmdNullSpartan6),
      ([0x30, 0xA1, 0x00, 0x01], .cmdWcfgSpartan6),
      ([0x30, 0xA1, 0x00, 0x02], .cmdMfwrSpartan6),
      ([0x30, 0xA1, 0x00, 0x03], .cmdLfrmSpartan6),
      ([0x30, 0xA1, 0x00, 0x04], .cmdRcfgSpartan6),
      ([0x30, 0xA1, 0x00, 0x05], .cmdStartSpartan6),
      ([0x30, 0xA1, 0x00, 0x07], .cmdRcrcSpartan6),
      ([0x30, 0xA1, 0x00, 0x08], .cmdAghighSpartan6),
      ([0x30, 0xA1, 0x00, 0x0A], .cmdGrestoreSpartan6),
      ([0x30, 0xA1, 0x00, 0x0B], .cmdShutdownSpartan6),
      ([0x30, 0xA1, 0x00, 0x0D], .cmdDesynchSpartan6),
      ([0x30, 0xA1, 0x00, 0x0E], .cmdIprogSpartan6)] : List (List Byte × Instr)).all
      (fun r => decodesTo .spartan6 r.1 r.2) = true := by decide

/-- A word of the opcode table, numbered as the table numbers it, is the instruction that the next step from reset runs. -/
theorem test_table_word_runs_from_reset :
    (decodeTableWord 64 0x3000800100000000 == some (.cmdNullVirtexII 0)
      && nextIs (step (State.reset.withFetchWord 64 0x3000800100000000)) fun t =>
        t.results == [.packet (.command .null) 0 []] && t.checksum == 0xD801) = true := by decide +kernel

/-- A 16-bit word of the table is a 16-bit instruction. -/
theorem test_table_word_of_16_bits :
    decodeTableWord 16 0x2000 = some .nop16 ∧ decodeTableWord 16 0x5000 = some (.lwrite 0) := by decide

/-! ## One step, from the examples of the spec -/

/-- R91. -/
theorem test_dummy_word :
    nextIs (exec .dummy32 (unsynced .virtexII [0xFF, 0xFF, 0xFF, 0xFF, 0xAA, 0x99, 0x55, 0x66])) (fun t =>
      t.position == 4 && t.results == [.packet .dummyWord 0 []]) = true := by decide +kernel

/-- R92. -/
theorem test_width_detect :
    nextIs (exec .widthDetect
      { unsynced .virtexIVPlus [0xFF, 0xFF, 0xFF, 0xFF, 0x00, 0x00, 0x00, 0xBB, 0x11, 0x22, 0x00, 0x44] with position := 4 })
      (fun t => t.position == 12 && t.results == [.packet .widthDetect 4 []]) = true := by decide +kernel

/-- R93. -/
theorem test_sync_word_32 :
    nextIs (exec .sync32
      { unsynced .virtexII [0xFF, 0xFF, 0xFF, 0xFF, 0xAA, 0x99, 0x55, 0x66] with position := 4 })
      (fun t => t.position == 8 && t.synced) = true := by decide +kernel

/-- R94. -/
theorem test_sync_word_16 :
    nextIs (exec .sync16
      { unsynced .spartan6 [0xFF, 0xFF, 0xFF, 0xFF, 0xAA, 0x99, 0x55, 0x66] with position := 4 })
      (fun t => t.position == 8 && t.synced) = true := by decide +kernel

/-- R95. -/
theorem test_garbage_before_sync :
    nextIs (step (unsynced .virtexII [0x12, 0x34, 0x56, 0x78])) (fun t =>
      t.status == .failed .unexpectedWord 0 && t.position == 0) = true := by decide +kernel

/-- R103: a matching and a mismatching Crc write. -/
theorem test_crc_match_and_mismatch :
    (nextIs (exec (.writeCrcVirtexII 0 1)
        { synced .virtexII cfg [0x30, 0x00, 0x00, 0x01, 0x00, 0x00, 0xD8, 0x01] with checksum := 0xD801 })
        (fun t => t.eventStream == [⟨4, .bits32 0xD801, 0xD801, true⟩] && t.checksum == 0xD801)
      && nextIs (exec (.writeCrcVirtexII 0 1)
        { synced .virtexII cfg [0x30, 0x00, 0x00, 0x01, 0x00, 0x00, 0xD8, 0x00] with checksum := 0xD801 })
        (fun t => t.eventStream == [⟨4, .bits32 0xD800, 0xD801, false⟩] && t.status == .running)) = true := by decide +kernel

/-- R103: the two-word Crc value of a 16-bit kind. -/
theorem test_crc_pair :
    nextIs (exec (.writeCrcSpartan6 2)
      { synced .spartan6 cfg [0x30, 0x02, 0x00, 0x05, 0x00, 0x00] with checksum := 0x050000 })
      (fun t => t.results == [.packet (.crc (.bits32 0x00050000)) 0 [⟨2, .bits32 0x00050000, 0x00050000, true⟩]]) = true := by decide +kernel

/-- The cause codes of R188. -/
theorem test_error_codes :
    [ErrorKind.truncated, .unexpectedWord, .unexpectedWordCount, .unknownRegister, .unknownCommand, .malformedPadding].map
      ErrorKind.code = [1, 2, 3, 4, 5, 6] := by decide

/-- A configuration whose tables have one entry each in a kind of either width, outside what R41 asks for. -/
def cfgOdd (wide narrow : RegEntry) : Config := { cfg with regTable := ⟨[], [wide], [], [], [narrow]⟩ }

/-- R97 and R99 over other tables: a Crc entry of one word in a 16-bit kind, of two words in a 32-bit kind, compared as
unsigned numbers (R11). -/
theorem test_crc_values_of_other_widths :
    (nextIs (step { synced .spartan6 (cfgOdd ⟨4, .cmd, .var⟩ ⟨0, .crc, .one⟩) [0x30, 0x01, 0x12, 0x34] with checksum := 0x1234 })
        (fun t => t.results == [.packet (.crc (.bits16 0x1234)) 0 [⟨2, .bits16 0x1234, 0x1234, true⟩]])
      && nextIs (step { synced .virtexII (cfgOdd ⟨0, .crc, .two⟩ ⟨0, .crc, .one⟩) [0x30, 0, 0, 2, 0, 0, 0, 1, 0, 0, 0, 2]
            with checksum := 2 })
        (fun t => t.results == [.packet (.crc (.bits64 0x100000002)) 0 [⟨4, .bits64 0x100000002, 2, false⟩]])) = true := by
  decide +kernel

/-- R107 over other tables: a Cmd entry of variable length that is given no data word (log entry 12). -/
theorem test_cmd_without_a_word :
    nextIs (step (synced .virtexII (cfgOdd ⟨4, .cmd, .var⟩ ⟨0, .crc, .one⟩) [0x30, 0x00, 0x80, 0x00]))
      (fun t => t.status == .failed .unexpectedWordCount 0) = true := by decide +kernel

/-- R104. -/
theorem test_fdri_write :
    nextIs (exec (.writeFdriVirtexIVPlus 0 2)
      (synced .virtexIVPlus cfg [0x30, 0x00, 0x40, 0x02, 0x00, 0x00, 0x00, 0x01, 0x00, 0x00, 0x00, 0x02]))
      (fun t => t.checksum == 0xBE7BA4F8 && t.results == [.packet (.fdri ⟨4, 8⟩) 0 []]) = true := by decide +kernel

/-- R105: zero padding, and the last word not zero. -/
theorem test_mfwr_write :
    (nextIs (exec (.writeMfwrVirtexII 0 2) (synced .virtexII cfg [0x30, 0x01, 0x40, 0x02, 0, 0, 0, 0, 0, 0, 0, 0]))
        (fun t => t.checksum == 0x3C66 && t.results == [.packet (.mfwr 2) 0 []])
      && nextIs (exec (.writeMfwrVirtexII 0 2) (synced .virtexII cfg [0x30, 0x01, 0x40, 0x02, 0, 0, 0, 0, 0, 0, 1, 0]))
        (fun t => t.status == .failed .malformedPadding 0)) = true := by decide +kernel

/-- R108 and R109. -/
theorem test_value_writes :
    (nextIs (exec (.writeFarVirtexOriginal 0 1) (synced .virtexOriginal cfg [0x30, 0x00, 0x20, 0x01, 0, 0, 0, 1]))
        (fun t => t.checksum == 0x0FC0 && t.lastRegister == some 1)
      && nextIs (exec (.writeFarMajSpartan3A 1) (synced .spartan3A cfg [0x30, 0x21, 0x00, 0x01]))
        (fun t => t.checksum == 0x010001 && t.results == [.packet (.value .farMaj (.bits16 1)) 0 []])) = true := by
  decide +kernel

/-- R148 and R155: a command feeds its code; `CmdRcrc` leaves 0. -/
theorem test_commands :
    (nextIs (exec (.cmdNullVirtexOriginal 0) (synced .virtexOriginal cfg [0x30, 0x00, 0x80, 0x01, 0, 0, 0, 0]))
        (fun t => t.checksum == 0xF001 && t.results == [.packet (.command .null) 0 []])
      && nextIs (exec (.cmdRcrcVirtexOriginal 0)
        { synced .virtexOriginal cfg [0x30, 0x00, 0x80, 0x01, 0, 0, 0, 7] with checksum := 0x1234 })
        (fun t => t.checksum == 0 && t.results == [.packet (.command .rcrc) 0 []])) = true := by decide +kernel

/-- R170: the long form feeds as the Type-1 form does; without a last register it fails. -/
theorem test_type2_write :
    (nextIs (exec (.t2write 2)
        { synced .virtexIVPlus cfg [0x50, 0x00, 0x00, 0x02, 0, 0, 0, 1, 0, 0, 0, 2] with lastRegister := some 2 })
        (fun t => t.checksum == 0xBE7BA4F8 && t.position == 12)
      && nextIs (exec (.t2write 1) (synced .virtexIVPlus cfg [0x50, 0x00, 0x00, 0x01, 0, 0, 0, 1]))
        (fun t => t.status == .failed .unexpectedWord 0)) = true := by decide +kernel

/-- R172: `0x5000` and `0x5060` decode alike under the default source. -/
theorem test_long_write_16 :
    (nextIs (exec (.lwrite 0)
        { synced .spartan6 cfg [0x50, 0x00, 0x00, 0x00, 0x00, 0x02, 0x00, 0x01, 0x00, 0x02] with lastRegister := some 3 })
        (fun t => t.checksum == 0x050000 && t.results == [.packet (.fdri ⟨6, 4⟩) 0 []])
      && nextIs (exec (.lwrite 0x60)
        (synced .spartan6 cfgField [0x50, 0x60, 0x00, 0x00, 0x00, 0x02, 0x00, 0x01, 0x00, 0x02]))
        (fun t => t.checksum == 0x050000 && t.position == 10)) = true := by decide +kernel

/-- R173: a matching auto-checksum word resets, a mismatching one does not. -/
theorem test_auto_checksum :
    (nextIs (exec (.t2write 1)
        { synced .virtexIVPlus cfgAuto [0x50, 0, 0, 1, 0, 0, 0, 1, 0xD5, 0x39, 0xCC, 0xFE] with lastRegister := some 2 })
        (fun t => t.checksum == 0 && t.eventStream == [⟨8, .bits32 0xD539CCFE, 0xD539CCFE, true⟩])
      && nextIs (exec (.t2write 1)
        { synced .virtexIVPlus cfgAuto [0x50, 0, 0, 1, 0, 0, 0, 1, 0xD5, 0x39, 0xCC, 0xFF] with lastRegister := some 2 })
        (fun t => t.checksum == 0xD539CCFE && t.eventStream == [⟨8, .bits32 0xD539CCFF, 0xD539CCFE, false⟩])) = true := by decide +kernel

/-- R174: the run stops at the first word that is not zero, or where fewer than 4 bytes remain. -/
theorem test_bug_fdri :
    (nextIs (exec .bugFdri (synced .virtexII cfg [0, 0, 0, 0, 0, 0, 0, 0, 0x30, 0x00, 0x80, 0x01]))
        (fun t => t.results == [.packet (.bugFdri ⟨0, 8⟩) 0 []] && t.lastRegister == none)
      && nextIs (exec .bugFdri (synced .virtexII cfg [0, 0, 0, 0, 0, 0, 0, 0, 0, 0, 0, 0, 0, 0]))
        (fun t => t.checksum == 0xD95F && t.position == 12)) = true := by decide +kernel

/-- The auto-checksum word on its own (log entry 14). -/
theorem test_auto_crc_word :
    nextIs (exec (.autoCrc 7)
      { synced .virtexIVPlus cfgAuto [0x50, 0, 0, 0, 0, 0, 0, 7] with
        position := 4, checksum := 7, results := [.packet (.fdri ⟨4, 0⟩) 0 []] })
      (fun t => t.checksum == 0 && t.eventStream == [⟨4, .bits32 7, 7, true⟩]) = true := by decide +kernel

/-! ## Witnesses: for each statement with hypotheses, a state and operands that meet them, clause by clause -/

/-- A step, or a meaning, answers a next state. -/
def answers (o : Host.Outcome State Fault Refusal) : Bool := nextIs o fun _ => true

theorem witness_EncodedInstructionDecodesToItself :
    (Instr.writeFarVirtexII 0 1).wf cfg .virtexII = true ∧
    ∀ rk e, (Instr.writeFarVirtexII 0 1).form = .write rk e → e.tag ≠ .cmd := by
  refine ⟨by decide, fun rk e h => ?_⟩
  cases h
  decide

theorem witness_DecodedInstructionKeepsItsBits :
    decode cfg .virtexII .header [0x30, 0x00, 0x80, 0x01, 0, 0, 0, 0] = .ok (.cmdNullVirtexII 0) ∧
    (Instr.cmdNullVirtexII 0).form = .command .virtexII ⟨0, .null⟩ ∧
    decode cfg .spartan6 .afterFdri [0, 0, 0, 7] = .ok (.autoCrc 7) := by decide

theorem witness_DecoderRefusesExactlyTheIllegalHeaders :
    DeviceKind.virtexII.wordBytes = 4 ∧ DeviceKind.spartan6.wordBytes = 2 := by decide

theorem witness_ReadWordIsBigEndianAndBounded :
    let m := Memory.ofBytes [1, 2, 3, 4]
    2 + 2 ≤ m.len ∧ 0 + 4 ≤ m.len ∧ m.len < 3 + 2 ∧ m.len < 1 + 4 := by decide

theorem witness_WindowIsABoundedView :
    let m := Memory.ofBytes [1, 2, 3, 4]
    4 + 0 ≤ m.len ∧ 1 + 3 ≤ m.len ∧ m.len < 1 + 4 := by decide

theorem witness_StepReadsOnlyBytesOfTheBuffer :
    let s := synced .virtexII cfg [0x20, 0, 0, 0]
    let m : Memory := ⟨4, [(0, 0x20), (7, 9)]⟩
    m.len = s.buf.len ∧ (∀ a, a < m.len → m.byte a = s.buf.byte a) ∧ m ≠ s.buf ∧ answers (step s) = true := by
  decide

theorem witness_FeedStaysBelowTheBound :
    (0x3FFFFF#32).toNat < checksumBound .spartan6 ∧ (0xFFFF#32).toNat < checksumBound .virtexII ∧
    (0xFFFFFFFF#32).toNat < checksumBound .virtexIVPlus := by decide

theorem witness_FeedingKeepsAccumulatorsApart :
    (0x1234#32).toNat < checksumBound .virtexII ∧
    feedAll .virtexII 0x1234 [1, 2] 2 = feedAll .virtexII 0x1234 [1, 2] 2 := by decide +kernel

theorem witness_StepRunsTheDecodedInstruction :
    let s := synced .virtexII cfg [0x20, 0, 0, 0]
    s.status = .running ∧ s.position + s.kind.wordBytes ≤ s.buf.len ∧
    decode s.cfg s.kind .header
      ((List.range (min longestEncoding (s.buf.len - s.position))).map fun j => s.buf.get (s.position + j)) =
        .ok .nop32 := by decide

theorem witness_SequenceEndsAtTheBuffersEnd :
    let s := synced .virtexII cfg [0x20, 0, 0]
    s.status = .running ∧ s.position < s.buf.len ∧ s.buf.len < s.position + s.kind.wordBytes ∧
    State.reset.status = .running ∧ State.reset.position = State.reset.buf.len := by decide

theorem witness_OtherWordBeforeSyncIsUnexpected :
    let s := { unsynced .virtexII [0, 0, 0, 0xBB] with cfg := { cfg with widthDetectKinds := [] } }
    let u := unsynced .spartan6 [0x20, 0x00]
    s.status = .running ∧ s.synced = false ∧ s.position + s.kind.wordBytes ≤ s.buf.len ∧ s.kind.wordBytes = 4 ∧
    s.buf.read s.position s.kind.wordBytes ≠ 0xFFFFFFFF ∧ s.buf.read s.position s.kind.wordBytes ≠ 0xAA995566 ∧
    ¬ (s.buf.read s.position s.kind.wordBytes = 0x000000BB ∧ s.widthDetect = true) ∧
    u.status = .running ∧ u.synced = false ∧ u.position + u.kind.wordBytes ≤ u.buf.len ∧ u.kind.wordBytes = 2 ∧
    u.buf.read u.position u.kind.wordBytes ≠ 0xFFFF ∧ u.buf.read u.position u.kind.wordBytes ≠ 0xAA99 := by decide

theorem witness_OtherWordOnceSyncedIsUnexpected :
    let s := synced .virtexOriginal cfg [0, 0, 0, 0]
    let u := synced .spartan6 cfg [0xAA, 0x99]
    s.status = .running ∧ s.synced = true ∧ s.position + s.kind.wordBytes ≤ s.buf.len ∧ s.kind.wordBytes = 4 ∧
    ¬ (s.buf.read s.position s.kind.wordBytes = 0 ∧ s.bugFdri = true) ∧
    s.buf.read s.position s.kind.wordBytes ≠ 0x20000000 ∧
    s.buf.read s.position s.kind.wordBytes >>> 27 ≠ 0b00110 ∧ s.buf.read s.position s.kind.wordBytes >>> 27 ≠ 0b01010 ∧
    u.status = .running ∧ u.synced = true ∧ u.position + u.kind.wordBytes ≤ u.buf.len ∧ u.kind.wordBytes = 2 ∧
    u.buf.read u.position u.kind.wordBytes ≠ 0x2000 ∧ u.buf.read u.position u.kind.wordBytes >>> 11 ≠ 0b00110 ∧
    u.buf.read u.position u.kind.wordBytes >>> 11 ≠ 0b01010 := by decide

theorem witness_NothingHappensAfterTheEnd :
    ({ State.reset with status := .ended } : State).status ≠ .running ∧
    ({ State.reset with status := .failed .truncated 0 } : State).status ≠ .running := by decide

theorem witness_PeekShowsTheNextResult :
    State.reset.status = .running ∧ answers (step State.reset) = true := by decide

theorem witness_DummyWordMovesOnlyTheCursor :
    (unsynced .virtexII []).synced = false ∧ (synced .virtexII cfg []).synced = true := by decide

theorem witness_SyncWord32EntersSyncedMode :
    (unsynced .virtexII []).synced = false ∧ (synced .virtexII cfg []).synced = true := by decide

theorem witness_SyncWord16EntersSyncedMode :
    let good := unsynced .spartan6 [0xAA, 0x99, 0x55, 0x66]
    let bad := unsynced .spartan6 [0xAA, 0x99, 0x55, 0x67]
    let cut := unsynced .spartan6 [0xAA, 0x99, 0x55]
    let free := { good with cfg := { cfg with sync16Verify := ⟨false, false, false, false, false⟩ } }
    (free.synced = false ∧ free.sync16Verify = false) ∧
    (cut.synced = false ∧ cut.sync16Verify = true ∧ cut.buf.len < cut.position + 4) ∧
    (good.synced = false ∧ good.sync16Verify = true ∧ good.position + 4 ≤ good.buf.len ∧
      good.buf.read (good.position + 2) 2 = 0x5566) ∧
    (bad.synced = false ∧ bad.sync16Verify = true ∧ bad.position + 4 ≤ bad.buf.len ∧
      bad.buf.read (bad.position + 2) 2 ≠ 0x5566) := by decide

theorem witness_WidthDetectNeedsItsConfirmation :
    let good := unsynced .virtexIVPlus [0, 0, 0, 0xBB, 0x11, 0x22, 0x00, 0x44]
    let bad := unsynced .virtexIVPlus [0, 0, 0, 0xBB, 0x11, 0x22, 0x00, 0x45]
    let cut := unsynced .virtexIVPlus [0, 0, 0, 0xBB, 0x11, 0x22, 0x00]
    let off := { good with cfg := { cfg with widthDetectKinds := [] } }
    (off.synced = false ∧ off.widthDetect = false) ∧
    (cut.synced = false ∧ cut.widthDetect = true ∧ cut.buf.len < cut.position + 8) ∧
    (good.synced = false ∧ good.widthDetect = true ∧ good.position + 8 ≤ good.buf.len ∧
      good.buf.read (good.position + 4) 4 = 0x11220044) ∧
    (bad.synced = false ∧ bad.widthDetect = true ∧ bad.position + 8 ≤ bad.buf.len ∧
      bad.buf.read (bad.position + 4) 4 ≠ 0x11220044) := by decide

theorem witness_NopMovesOnlyTheCursor :
    (synced .virtexII cfg []).synced = true ∧ (unsynced .virtexII []).synced = false := by decide

/-- The shared hypotheses of the Type-1 procedure, in both widths. -/
theorem witness_Type1WriteFollowsItsProcedure :
    let s := synced .virtexII cfg [0x30, 0x00, 0x80, 0x01, 0, 0, 0, 0]
    let u := synced .spartan6 cfg [0x30, 0xA1, 0, 0]
    s.synced = true ∧ u.synced = true ∧
    s.buf.len < s.position + 4 + 2 * 4 ∧ s.position + 4 + 1 * 4 ≤ s.buf.len ∧
    u.buf.len < u.position + 2 + 2 * 2 ∧ u.position + 2 + 1 * 2 ≤ u.buf.len := by decide

/-- The register clauses of the Type-1 procedure: an id without entry, a broken count, each tag at a word count it fits. -/
theorem witness_Type1WriteFollowsItsProcedure_registers :
    let s := synced .virtexII cfg [0x30, 0x00, 0x80, 0x01, 0, 0, 0, 0]
    let u := synced .spartan6 cfg [0x30, 0xA1, 0, 0, 0, 0]
    s.lookupReg 3 = none ∧ s.lookupReg 4 = some ⟨4, .cmd, .one⟩ ∧ s.lookupReg 10 = some ⟨10, .mfwr, .var⟩ ∧
    s.lookupReg 2 = some ⟨2, .fdri, .var⟩ ∧ s.lookupReg 0 = some ⟨0, .crc, .one⟩ ∧
    s.lookupReg 13 = some ⟨13, .cbc, .var⟩ ∧ s.lookupReg 1 = some ⟨1, .far, .one⟩ ∧
    u.lookupReg 14 = some ⟨14, .idcode, .two⟩ ∧ u.lookupReg 0 = some ⟨0, .crc, .two⟩ ∧
    s.lookupCmd (s.buf.read 4 4) = some .null ∧ s.lookupCmd 14 = none := by decide

/-- The clauses of the Type-1 procedure that only tables outside R41 reach: Cmd, Mfwr and Crc entries of other lengths. -/
theorem witness_Type1WriteFollowsItsProcedure_other_tables :
    let s := synced .virtexII (cfgOdd ⟨4, .cmd, .var⟩ ⟨0, .crc, .var⟩) [0x30, 0x00, 0x80, 0x00]
    let u := synced .spartan6 (cfgOdd ⟨0, .crc, .two⟩ ⟨0, .crc, .var⟩) [0x30, 0x03, 0, 1, 0, 2, 0, 3]
    (s.synced = true ∧ s.lookupReg 4 = some ⟨4, .cmd, .var⟩ ∧ s.position + 4 + 0 * 4 ≤ s.buf.len) ∧
    (u.synced = true ∧ u.lookupReg 0 = some ⟨0, .crc, .var⟩ ∧ u.position + 2 + 3 * 2 ≤ u.buf.len) := by decide

theorem witness_Type1WriteFollowsItsProcedure_counts :
    wrongCount .one 0 ∧ wrongCount .one 2 ∧ wrongCount .two 1 ∧ ¬ wrongCount .one 1 ∧ ¬ wrongCount .two 2 ∧
    ¬ wrongCount .var 0 := by
  simp [wrongCount]

theorem witness_Type1WriteFollowsItsProcedure_padding :
    zeroBytes (Memory.ofBytes [0x30, 1, 0x40, 1, 0, 0, 0, 0]) 4 8 ∧
    ¬ zeroBytes (Memory.ofBytes [0x30, 1, 0x40, 1, 0, 0, 0, 5]) 4 8 := by
  refine ⟨fun a h1 h2 => ?_, fun h => ?_⟩
  · interval_cases a <;> decide
  · exact absurd (h 7 (by decide) (by decide)) (by decide)

theorem witness_RowsRunAsTheGenericWrite :
    (synced .virtexII cfg []).kind.wordBytes = 4 ∧ (synced .spartan6 cfg []).kind.wordBytes = 2 := by decide

/-- The hypotheses of a row's outcome for 1, 0 and too many words, in a session of each kind. -/
def rowHypotheses (k : DeviceKind) (bs : List Byte) : Bool :=
  let s := synced k cfg bs
  s.kind == k && s.synced
    && decide (s.position + k.wordBytes + 1 * k.wordBytes ≤ s.buf.len)
    && decide (s.position + k.wordBytes + 0 * k.wordBytes ≤ s.buf.len)
    && decide (s.buf.len < s.position + k.wordBytes + 3 * k.wordBytes)

theorem witness_VirtexOriginalValueWrites : rowHypotheses .virtexOriginal [0x30, 0, 0x20, 1, 0, 0, 0, 1] = true := by decide
theorem witness_VirtexOriginalCommands : rowHypotheses .virtexOriginal [0x30, 0, 0x20, 1, 0, 0, 0, 1] = true := by decide
theorem witness_VirtexIIValueWrites : rowHypotheses .virtexII [0x30, 0, 0x20, 1, 0, 0, 0, 1] = true := by decide
theorem witness_VirtexIICommands : rowHypotheses .virtexII [0x30, 0, 0x20, 1, 0, 0, 0, 1] = true := by decide
theorem witness_VirtexIVPlusValueWrites : rowHypotheses .virtexIVPlus [0x30, 0, 0x20, 1, 0, 0, 0, 1] = true := by decide
theorem witness_VirtexIVPlusCommands : rowHypotheses .virtexIVPlus [0x30, 0, 0x20, 1, 0, 0, 0, 1] = true := by decide
theorem witness_Spartan3AValueWrites : rowHypotheses .spartan3A [0x30, 0x21, 0, 1] = true := by decide
theorem witness_Spartan3ACommands : rowHypotheses .spartan3A [0x30, 0x21, 0, 1] = true := by decide
theorem witness_Spartan6ValueWrites : rowHypotheses .spartan6 [0x30, 0x21, 0, 1] = true := by decide
theorem witness_Spartan6Commands : rowHypotheses .spartan6 [0x30, 0x21, 0, 1] = true := by decide

theorem witness_IdcodePairWrites :
    rowHypotheses .spartan3A [0x31, 0xC2, 0, 1, 0, 2] = true ∧ rowHypotheses .spartan6 [0x31, 0xC2, 0, 1, 0, 2] = true ∧
    (synced .spartan6 cfg [0x31, 0xC2, 0, 1, 0, 2]).position + 2 + (2#5).toNat * 2 ≤
      (synced .spartan6 cfg [0x31, 0xC2, 0, 1, 0, 2]).buf.len := by decide

theorem witness_CrcWritesCompareTheAccumulator :
    rowHypotheses .virtexOriginal [0x30, 0, 0, 1, 0, 0, 0, 1] = true ∧
    rowHypotheses .virtexII [0x30, 0, 0, 1, 0, 0, 0, 1] = true ∧
    rowHypotheses .virtexIVPlus [0x30, 0, 0, 1, 0, 0, 0, 1] = true ∧
    rowHypotheses .spartan3A [0x30, 2, 0, 1, 0, 2] = true ∧ rowHypotheses .spartan6 [0x30, 2, 0, 1, 0, 2] = true := by
  decide

theorem witness_WindowWritesExposeTheirData :
    rowHypotheses .virtexOriginal [0x30, 0, 0x40, 1, 0, 0, 0, 1] = true ∧
    rowHypotheses .virtexII [0x30, 0, 0x40, 1, 0, 0, 0, 1] = true ∧
    rowHypotheses .virtexIVPlus [0x30, 0, 0x40, 1, 0, 0, 0, 1] = true ∧
    rowHypotheses .spartan3A [0x30, 0x61, 0, 1] = true ∧ rowHypotheses .spartan6 [0x34, 0x41, 0, 1] = true := by decide

theorem witness_MfwrWritesAreZeroPadding :
    rowHypotheses .virtexII [0x30, 1, 0x40, 1, 0, 0, 0, 0] = true ∧
    rowHypotheses .virtexIVPlus [0x30, 1, 0x40, 1, 0, 0, 0, 0] = true ∧
    rowHypotheses .spartan3A [0x33, 1, 0, 0] = true ∧ rowHypotheses .spartan6 [0x33, 0x61, 0, 0] = true ∧
    zeroBytes (Memory.ofBytes [0x30, 1, 0x40, 1, 0, 0, 0, 0]) 4 8 ∧
    ¬ zeroBytes (Memory.ofBytes [0x30, 1, 0x40, 1, 0, 0, 0, 5]) 4 8 :=
  ⟨by decide, by decide, by decide, by decide, witness_Type1WriteFollowsItsProcedure_padding⟩

theorem witness_CmdRegisterWritesDecodeTheirCommand :
    rowHypotheses .virtexOriginal [0x30, 0, 0x80, 1, 0, 0, 0, 7] = true ∧
    (synced .virtexOriginal cfg [0x30, 0, 0x80, 1, 0, 0, 0, 7]).lookupCmd 7 = some .rcrc ∧
    (synced .virtexOriginal cfg [0x30, 0, 0x80, 1, 0, 1, 0, 7]).lookupCmd 0x10007 = none ∧
    rowHypotheses .virtexII [0x30, 0, 0x80, 1, 0, 0, 0, 7] = true ∧
    rowHypotheses .virtexIVPlus [0x30, 0, 0x80, 1, 0, 0, 0, 7] = true ∧
    rowHypotheses .spartan3A [0x30, 0xA1, 0, 7] = true ∧ rowHypotheses .spartan6 [0x30, 0xA1, 0, 7] = true := by decide

/-- A Type-2 write of one word to Fdri. -/
def type2Session : State :=
  { synced .virtexIVPlus cfg [0x50, 0, 0, 1, 0, 0, 0, 1, 0xD5, 0x39, 0xCC, 0xFE] with lastRegister := some 2 }

/-- A 16-bit long write of one word to Fdri. -/
def longSession16 : State :=
  { synced .spartan6 cfg [0x50, 0x60, 0, 0, 0, 1, 0xAB, 0xCD, 0, 3, 0xAB, 0xCD] with lastRegister := some 3 }

theorem witness_Type2WriteUsesTheLastRegister :
    let s := type2Session
    (s.synced = true ∧ s.lastRegister = some 2 ∧ s.lookupReg 2 = some ⟨2, .fdri, .var⟩ ∧
      ¬ (s.autoCrc = true ∧ Tag.fdri = .fdri) ∧ s.position + 4 + (1#27).toNat * 4 ≤ s.buf.len) ∧
    LongPacket s.buf .fdri (s.position + 4) 4 1 (.fdri ⟨s.position + 4, 1 * 4⟩) ∧
    LongPacket (Memory.ofBytes [0x50, 0, 0, 1, 0, 0, 0, 0]) .mfwr 4 4 1 (.mfwr 1) ∧
    LongPacket s.buf .cbc 4 4 0 (.window .cbc ⟨4, 0 * 4⟩) := by
  refine ⟨by decide, .inl ⟨rfl, rfl⟩, .inr (.inl ⟨rfl, fun a h1 h2 => ?_, rfl⟩), .inr (.inr ⟨by decide, by decide, rfl⟩)⟩
  have h3 : a < 8 := h2
  interval_cases a <;> decide

theorem witness_LongWrite16TakesItsLengthWord :
    let s := longSession16
    let u := { s with cfg := cfgField }
    (s.synced = true ∧ s.lookupReg 3 = some ⟨3, .fdri, .var⟩ ∧ ¬ (s.autoCrc = true ∧ Tag.fdri = .fdri) ∧
      s.position + 6 + (s.buf.read (s.position + 2) 4).toNat * 2 ≤ s.buf.len) ∧
    LongTarget16 s 0 3 ∧ LongTarget16 u 0x60 3 ∧
    LongPacket s.buf .fdri (s.position + 6) 2 1 (.fdri ⟨s.position + 6, 1 * 2⟩) :=
  ⟨by decide, .inl ⟨rfl, rfl⟩, .inr ⟨rfl, by decide⟩, .inl ⟨rfl, rfl⟩⟩

theorem witness_AutoChecksumResetsOnlyOnAMatch :
    let s := { type2Session with cfg := cfgAuto }
    let u := { longSession16 with cfg := cfgAuto }
    (s.synced = true ∧ s.lastRegister = some 2 ∧ s.lookupReg 2 = some ⟨2, .fdri, .var⟩ ∧ s.autoCrc = true ∧
      s.position + 4 + (1#27).toNat * 4 + 4 ≤ s.buf.len) ∧
    (u.synced = true ∧ u.lookupReg 3 = some ⟨3, .fdri, .var⟩ ∧ u.autoCrc = true ∧
      u.position + 6 + (u.buf.read (u.position + 2) 4).toNat * 2 + 4 ≤ u.buf.len) ∧
    LongTarget16 u 0 3 :=
  ⟨by decide, by decide, .inl ⟨rfl, rfl⟩⟩

theorem witness_ChecksumMismatchIsNoError :
    let a := synced .virtexII cfg [0x30, 0, 0, 1, 0, 0, 0, 1]
    let b := synced .spartan6 cfg [0x30, 2, 0, 0, 0, 1]
    let s := { type2Session with cfg := cfgAuto, checksum := 5 }
    let u := { longSession16 with cfg := cfgAuto, checksum := 5 }
    (a.synced = true ∧ a.lookupReg 0 = some ⟨0, .crc, .one⟩ ∧ 0 + 4 + 4 ≤ a.buf.len ∧
      a.buf.read 4 4 ≠ a.checksum) ∧
    (b.synced = true ∧ b.lookupReg 0 = some ⟨0, .crc, .two⟩ ∧ 0 + 2 + 4 ≤ b.buf.len ∧
      b.buf.read 2 4 ≠ b.checksum) ∧
    (s.synced = true ∧ s.lastRegister = some 2 ∧ s.lookupReg 2 = some ⟨2, .fdri, .var⟩ ∧ s.autoCrc = true ∧
      s.position + (4 + (1#27).toNat * 4) + 4 ≤ s.buf.len ∧
      s.buf.read (s.position + (4 + (1#27).toNat * 4)) 4 ≠
        s.fedLong ⟨2, .fdri, .var⟩ 2 (wordsAt s.buf (s.position + 4) 4 (1#27).toNat)) ∧
    (u.synced = true ∧ u.lookupReg 3 = some ⟨3, .fdri, .var⟩ ∧ u.autoCrc = true ∧ 0 + (6 + 1 * 2) + 4 ≤ u.buf.len ∧
      (u.buf.read 2 4).toNat = 1 ∧ u.buf.read (0 + (6 + 1 * 2)) 4 ≠ u.fedLong ⟨3, .fdri, .var⟩ 3 (wordsAt u.buf 6 2 1)) ∧
    LongTarget16 u 0 3 :=
  ⟨by decide +kernel, by decide +kernel, by decide +kernel, by decide +kernel, .inl ⟨rfl, rfl⟩⟩

theorem witness_LongWriteErrorsComeInOrder :
    let s := type2Session
    let fixed := { s with lastRegister := some 4 }
    let auto := { s with cfg := cfgAuto }
    (({ s with lastRegister := none } : State).synced = true ∧ ({ s with lastRegister := none } : State).lastRegister = none) ∧
    (s.lastRegister = some 2 ∧ s.lookupReg 2 = some ⟨2, .fdri, .var⟩ ∧ s.buf.len < s.position + 4 + (3#27).toNat * 4) ∧
    (fixed.lookupReg 4 = some ⟨4, .cmd, .one⟩ ∧ fixed.position + 4 + (1#27).toNat * 4 ≤ fixed.buf.len ∧ Card.one ≠ .var) ∧
    (s.lookupReg 10 = some ⟨10, .mfwr, .var⟩ ∧ s.position + 4 + (1#27).toNat * 4 ≤ s.buf.len) ∧
    ¬ zeroBytes s.buf (s.position + 4) (s.position + 4 + (1#27).toNat * 4) ∧
    (auto.autoCrc = true ∧ auto.position + 4 + (2#27).toNat * 4 ≤ auto.buf.len ∧
      auto.buf.len < auto.position + 4 + (2#27).toNat * 4 + 4) :=
  ⟨by decide, by decide, by decide, by decide, fun h => absurd (h 7 (by decide) (by decide)) (by decide), by decide⟩

theorem witness_LongWriteErrorsComeInOrder_16 :
    let s := longSession16
    let none16 := { s with lastRegister := none }
    let field := { s with cfg := cfgField }
    let short := { synced .spartan6 cfg [0x50, 0x60, 0, 0, 0] with lastRegister := some 3 }
    let cut := { synced .spartan6 cfg [0x50, 0x60, 0, 0, 0, 1, 0] with lastRegister := some 3 }
    let auto := { synced .spartan6 cfgAuto [0x50, 0x60, 0, 0, 0, 1, 0, 1, 0] with lastRegister := some 3 }
    (none16.cfg.lw16RegSource = .lastRegister ∧ none16.lastRegister = none) ∧
    (field.cfg.lw16RegSource = .headerField ∧ field.lookupReg ((0x80#11).extractLsb' 5 6).toNat = none) ∧
    short.buf.len < short.position + 6 ∧
    (cut.position + 6 ≤ cut.buf.len ∧
      cut.buf.len < cut.position + 6 + (cut.buf.read (cut.position + 2) 4).toNat * 2) ∧
    (s.lookupReg 5 = some ⟨5, .cmd, .one⟩ ∧ s.lookupReg 27 = some ⟨27, .mfwr, .var⟩ ∧
      s.position + 6 + (s.buf.read (s.position + 2) 4).toNat * 2 ≤ s.buf.len) ∧
    ¬ zeroBytes s.buf (s.position + 6) (s.position + 6 + (s.buf.read (s.position + 2) 4).toNat * 2) ∧
    (auto.autoCrc = true ∧ auto.position + 6 + (auto.buf.read (auto.position + 2) 4).toNat * 2 ≤ auto.buf.len ∧
      auto.buf.len < auto.position + 6 + (auto.buf.read (auto.position + 2) 4).toNat * 2 + 4) ∧
    LongTarget16 short 0 3 ∧ LongTarget16 cut 0 3 ∧ LongTarget16 { s with lastRegister := some 5 } 0 5 ∧
    LongTarget16 { s with lastRegister := some 27 } 0 27 ∧ LongTarget16 auto 0 3 :=
  ⟨by decide, by decide, by decide, by decide, by decide,
    fun h => absurd (h 7 (by decide) (by decide)) (by decide), by decide,
    .inl ⟨rfl, rfl⟩, .inl ⟨rfl, rfl⟩, .inl ⟨rfl, rfl⟩, .inl ⟨rfl, rfl⟩, .inl ⟨rfl, rfl⟩⟩

theorem witness_BugFdriTakesTheWholeZeroRun :
    let s := synced .virtexII cfg [0, 0, 0, 0, 0, 0, 0, 0, 0x20, 0, 0, 0]
    let u := synced .virtexII cfg [0, 0, 0, 0, 0, 0]
    let v := synced .virtexII (cfgOdd ⟨4, .cmd, .one⟩ ⟨0, .crc, .two⟩) [0, 0, 0, 0, 0, 0]
    (s.synced = true ∧ s.bugFdri = true ∧ s.cfg.fdriEntry s.kind = some ⟨2, .fdri, .var⟩ ∧
      s.position + 4 ≤ s.buf.len) ∧
    (v.synced = true ∧ v.bugFdri = true ∧ v.cfg.fdriEntry v.kind = none ∧ v.position + 4 ≤ v.buf.len) ∧
    ({ cfg with regTable := ⟨[], [⟨2, .fdri, .var⟩, ⟨3, .fdri, .var⟩], [], [], []⟩ } : Config).fdriEntry .virtexII = none ∧
    ({ cfg with regTable := ⟨[], [⟨2, .fdri, .var⟩, ⟨2, .fdri, .one⟩], [], [], []⟩ } : Config).fdriEntry .virtexII =
      some ⟨2, .fdri, .var⟩ ∧
    ZeroRun s 2 ∧ ZeroRun u 1 ∧ ZeroRun v 1 ∧ (synced .virtexOriginal cfg []).bugFdri = false := by
  refine ⟨by decide, by decide, by decide, by decide, ⟨by decide, fun i h1 h2 => ?_, by decide⟩,
    ⟨by decide, fun i h1 h2 => ?_, by decide⟩, ⟨by decide, fun i h1 h2 => ?_, by decide⟩, by decide⟩
  · interval_cases i
    decide
  · omega
  · omega

theorem witness_AutoCrcWordJoinsTheFdriPacket :
    let s := { synced .virtexIVPlus cfgAuto [0x50, 0, 0, 0, 0, 0, 0, 7] with
      position := 4, results := [.packet (.fdri ⟨4, 0⟩) 0 []] }
    (s.autoCrc = true ∧ s.results = [] ++ [.packet (.fdri ⟨4, 0⟩) 0 []] ∧ s.position + 4 ≤ s.buf.len) ∧
    (({ s with position := 5 } : State).buf.len < ({ s with position := 5 } : State).position + 4) ∧
    State.reset.autoCrc = false := by decide

theorem witness_AutoChecksumSplitsOffTheLongWrite :
    let s := { type2Session with cfg := cfgAuto }
    let u := { longSession16 with cfg := cfgAuto }
    answers (exec (.t2write 1) { s with cfg := { s.cfg with autoCrcKinds := [] } }) = true ∧
    answers (exec (.lwrite 0) { u with cfg := { u.cfg with autoCrcKinds := [] } }) = true := by decide +kernel

theorem witness_WrongModeIsUnexpectedWord :
    (Instr.nop32.place = .header ∧ State.reset.synced ≠ Instr.nop32.synced) ∧
    (Instr.dummy32.place = .header ∧ (synced .virtexII cfg []).synced ≠ Instr.dummy32.synced) := by decide

theorem witness_AnErrorChangesOnlyTheStatus :
    (unsynced .virtexII [0x20, 0, 0, 0]).status = .running ∧
    nextIs (exec .nop32 (unsynced .virtexII [0x20, 0, 0, 0])) (fun t => t.status == .failed .unexpectedWord 0) = true ∧
    nextIs (step (unsynced .virtexII [0x20, 0, 0, 0])) (fun t => t.status == .failed .unexpectedWord 0) = true := by decide

theorem witness_LaunchArgumentsNeverChange :
    answers (exec .nop32 (synced .virtexII cfg [0x20, 0, 0, 0])) = true ∧ answers (step State.reset) = true := by decide

/-- A synced session one word into its buffer, with the Sync Word and a packet behind it, that can take another step. -/
def midway : State :=
  { synced .virtexII cfg [0xAA, 0x99, 0x55, 0x66, 0x30, 0, 0, 1, 0, 0, 0, 0, 0x20, 0, 0, 0] with
    position := 12
    lastRegister := some 0
    results := [.packet .syncWord 0 [], .packet (.crc (.bits32 0)) 4 [⟨8, .bits32 0, 0, true⟩]] }

theorem witness_StepKeepsTheCursorInvariant : midway.CursorOk ∧ answers (step midway) = true := by
  refine ⟨⟨by decide, by decide⟩, by decide⟩

theorem witness_StepKeepsTheRegisterInvariants :
    midway.ChecksumOk ∧ midway.LastRegisterOk ∧ answers (step midway) = true := by
  refine ⟨by unfold State.ChecksumOk; decide, fun reg h => ?_, by decide⟩
  cases h
  decide

theorem witness_StepKeepsTheResultStream : midway.StreamOk ∧ answers (step midway) = true := by
  have h : midway.results.all StepResult.isPacket = true := by decide
  exact ⟨⟨h, by decide, by decide⟩, by decide⟩

theorem witness_StepKeepsTheOutputsTrue : midway.OutputsOk ∧ answers (step midway) = true := by
  have hev : ∀ ev ∈ midway.eventStream, ev = ⟨8, .bits32 0, 0, true⟩ := by decide
  refine ⟨⟨fun ev h => ?_, by decide, fun pkt offset events h w hw => ?_⟩, by decide⟩
  · obtain rfl := hev ev h
    exact ⟨rfl, fun _ => (by decide : 8 + 4 ≤ midway.position ∧ (0 : BitVec 32) = midway.buf.read 8 4)⟩
  simp only [midway, List.mem_cons, StepResult.packet.injEq, List.not_mem_nil, or_false] at h
  rcases h with h | h <;> (obtain ⟨rfl, -, -⟩ := h; cases hw)

theorem witness_StepKeepsTheModeHistory : midway.ModeOk ∧ answers (step midway) = true := by
  refine ⟨⟨by decide, by decide⟩, by decide⟩

theorem witness_EveryRunEndsInTime : midway.position ≤ midway.buf.len := by decide

theorem witness_ResultsAreOnlyOutput : answers (step midway) = true := by decide

end Sys2Proof.Tests
end

/-!
The Word Cursor (spec/20_memory.md R47, R49): the number a bounded read gives, the bytes a window shows, and the two statements
about `readWord` and `readWindow`.
-/

namespace Sys2Proof.Machine

/-! ### The number a big-endian read gives -/

/-- The last byte of a sequence is the least significant one (R45). -/
theorem beValue_concat (bs : List Byte) (b : Byte) : beValue (bs ++ [b]) = beValue bs * 256 + b.toNat := by
  simp [beValue]

theorem beValue_lt (bs : List Byte) : beValue bs < 256 ^ bs.length := by
  induction bs using List.reverseRecOn with
  | nil => simp [beValue]
  | append_singleton bs b ih =>
    have hb := b.isLt
    rw [beValue_concat, List.length_append, List.length_singleton, pow_succ]
    omega

/-- The 32-bit container loses nothing of a word of at most 4 bytes. -/
theorem Memory.read_toNat (m : Memory) (a : Nat) {n : Nat} (hn : n ≤ 4) :
    (m.read a n).toNat = beValue (m.slice a n) := by
  have hlt : beValue (m.slice a n) < 2 ^ 32 := by
    calc beValue (m.slice a n) < 256 ^ (m.slice a n).length := beValue_lt _
      _ = 256 ^ n := by rw [Memory.slice_length]
      _ ≤ 256 ^ 4 := Nat.pow_le_pow_right (by omega) hn
      _ = 2 ^ 32 := by norm_num
  rw [Memory.read, BitVec.toNat_ofNat, Nat.mod_eq_of_lt hlt]

theorem Memory.read_two_toNat (m : Memory) (a : Nat) :
    (m.read a 2).toNat = (m.get a).toNat <<< 8 + (m.get (a + 1)).toNat := by
  rw [Memory.read_toNat m a (by omega), Memory.slice_two]
  simp only [beValue, List.foldl, Nat.shiftLeft_eq]
  omega

theorem Memory.read_four_toNat (m : Memory) (a : Nat) :
    (m.read a 4).toNat = (m.get a).toNat <<< 24 + (m.get (a + 1)).toNat <<< 16 + (m.get (a + 2)).toNat <<< 8 +
      (m.get (a + 3)).toNat := by
  rw [Memory.read_toNat m a le_rfl, Memory.slice_four]
  simp only [beValue, List.foldl, Nat.shiftLeft_eq]
  omega

/-- Settles O5: the success of `readWord` is `readWord_eq_some`, its failure `readWord_eq_none`, and the value is that of the
read of 2 or 4 bytes. -/
theorem readWordIsBigEndianAndBounded : Obligations.ReadWordIsBigEndianAndBounded := by
  intro m pos
  refine ⟨fun h => ?two, fun h => ?four, readWord_eq_none.mpr, readWord_eq_none.mpr⟩
  case two => exact ⟨m.read pos 2, readWord_eq_some.mpr ⟨h, rfl, rfl⟩, m.read_two_toNat pos⟩
  case four => exact ⟨m.read pos 4, readWord_eq_some.mpr ⟨h, rfl, rfl⟩, m.read_four_toNat pos⟩

/-! ### The bytes a window shows -/

/-- Taking a window is naming its offset and length, within the bound. -/
theorem readWindow_eq_some {m : Memory} {pos nbytes : Nat} {w : Window} {q : Nat} :
    readWindow m pos nbytes = some (w, q) ↔ pos + nbytes ≤ m.len ∧ w = ⟨pos, nbytes⟩ ∧ q = pos + nbytes := by
  unfold readWindow
  split <;> simp_all [eq_comm]

theorem readWindow_eq_none {m : Memory} {pos nbytes : Nat} :
    readWindow m pos nbytes = none ↔ m.len < pos + nbytes := by
  unfold readWindow
  split <;> simp_all

@[simp] theorem Window.bytes_length (m : Memory) (w : Window) : (w.bytes m).length = w.length :=
  m.slice_length w.offset w.length

theorem Memory.byte_of_lt {m : Memory} {a : Nat} (h : a < m.len) : m.byte a = some (m.get a) := if_pos h

theorem Memory.slice_getElem? (m : Memory) (a : Nat) {n i : Nat} (h : i < n) :
    (m.slice a n)[i]? = some (m.get (a + i)) := by
  simp [Memory.slice, h]

/-- A window within the buffer shows the buffer's own bytes, in order. -/
theorem Window.bytes_getElem? {m : Memory} {w : Window} (hw : w.offset + w.length ≤ m.len) {i : Nat} (hi : i < w.length) :
    (w.bytes m)[i]? = m.byte (w.offset + i) := by
  have hlt : w.offset + i < m.len := by omega
  rw [Window.bytes, Memory.slice_getElem? m w.offset hi, Memory.byte_of_lt hlt]

/-- Settles O6: the window taken is `⟨pos, nbytes⟩`, and a window within the buffer shows the buffer's bytes. -/
theorem windowIsABoundedView : Obligations.WindowIsABoundedView := by
  intro m pos nbytes
  refine ⟨fun h => ?within, readWindow_eq_none.mpr⟩
  case within =>
    have taken : readWindow m pos nbytes = some (⟨pos, nbytes⟩, pos + nbytes) := readWindow_eq_some.mpr ⟨h, rfl, rfl⟩
    exact ⟨⟨pos, nbytes⟩, taken, rfl, rfl, Window.bytes_length m _, fun _ hi => Window.bytes_getElem? h hi⟩

end Sys2Proof.Machine

/-!
Framing in Unsynced mode (spec/41_framing.md R91, R93, R95): every instruction at a header tests the mode before anything else,
the framing rows and the decoder's other classes are told apart by that test, and the three statements follow.
-/

namespace Sys2Proof.Machine

/-! ### The mode test of an instruction -/

/-- Every instruction at a header is a procedure that the mode guards (R59, R68). -/
theorem exec_eq_settle_inMode (i : Instr) (s : State) (h : i.place = .header) :
    ∃ body, exec i s = settle s (inMode i.synced s body) := by
  cases i with
  | autoCrc v => cases h
  | _ => exact ⟨_, rfl⟩

/-- In the mode it does not belong to, an instruction is `UnexpectedWord` at its header. -/
theorem exec_of_wrong_mode {i : Instr} {s : State} (h : i.place = .header) (hs : s.synced ≠ i.synced) :
    exec i s = .next (s.fail .unexpectedWord s.position) := by
  obtain ⟨body, hexec⟩ := exec_eq_settle_inMode i s h
  rw [hexec, inMode_wrong hs, settle_raise]

/-- A framing packet commits the cursor, the mode and its result. -/
theorem commit_framing (s : State) (pkt : Packet) (n : Nat) (b : Bool) :
    s.commit (framing s pkt n b) = s.framed n b pkt := rfl

theorem exec_dummy32 (s : State) :
    exec .dummy32 s = settle s (inMode false s (.ok (framing s .dummyWord 4 false))) := rfl

theorem exec_dummy16 (s : State) :
    exec .dummy16 s = settle s (inMode false s (.ok (framing s .dummyWord 2 false))) := rfl

theorem exec_sync32 (s : State) :
    exec .sync32 s = settle s (inMode false s (.ok (framing s .syncWord 4 true))) := rfl

theorem exec_widthDetect (s : State) : exec .widthDetect s = settle s (widthDetectPair s) := rfl

/-- Outside `WIDTH_DETECT_KINDS` the marker is `UnexpectedWord` in either mode (R92). -/
theorem widthDetectPair_off {s : State} (h : s.widthDetect = false) :
    widthDetectPair s = .error (.raise .unexpectedWord s.position) := by
  simp [widthDetectPair, inMode, h]

/-- A framing procedure met in its own mode. -/
theorem settle_framing {b : Bool} {s : State} (hs : s.synced = b) (pkt : Packet) (n : Nat) (b' : Bool) :
    settle s (inMode b s (.ok (framing s pkt n b'))) = .next (s.framed n b' pkt) := by
  rw [inMode_right hs, settle_ok, commit_framing]

/-- Settles O19: the framing procedure in Unsynced mode, the mode test in Synced mode. -/
theorem dummyWordMovesOnlyTheCursor : Obligations.DummyWordMovesOnlyTheCursor := by
  refine ⟨fun s hs => ⟨?_, ?_⟩, fun s hs => ⟨?_, ?_⟩⟩
  · rw [exec_dummy32, settle_framing hs]
  · rw [exec_dummy16, settle_framing hs]
  · exact exec_of_wrong_mode rfl (by simp [hs, Instr.synced])
  · exact exec_of_wrong_mode rfl (by simp [hs, Instr.synced])

/-- Settles O20: the framing procedure in Unsynced mode, the mode test in Synced mode. -/
theorem syncWord32EntersSyncedMode : Obligations.SyncWord32EntersSyncedMode := by
  refine ⟨fun s hs => ?_, fun s hs => ?_⟩
  · rw [exec_sync32, settle_framing hs]
  · exact exec_of_wrong_mode rfl (by simp [hs, Instr.synced])

/-! ### The classes of a header word -/

/-- An instruction that stands at a packet's header in Synced mode (R59). -/
def BelongsAfterSync (i : Instr) : Prop := i.place = .header ∧ i.synced = true

theorem exec_of_belongsAfterSync {i : Instr} {s : State} (h : BelongsAfterSync i) (hs : s.synced = false) :
    exec i s = .next (s.fail .unexpectedWord s.position) := by
  obtain ⟨hplace, hsynced⟩ := h
  exact exec_of_wrong_mode hplace (by simp [hs, hsynced])

theorem writeRow32_belongsAfterSync {k : DeviceKind} {t : Tag} {ignored : BitVec 2} {wc : BitVec 11} {i : Instr}
    (h : writeRow32 k t ignored wc = some i) : BelongsAfterSync i := by
  unfold writeRow32 at h
  split at h <;> cases h <;> exact ⟨rfl, rfl⟩

theorem writeRow16_belongsAfterSync {k : DeviceKind} {t : Tag} {wc : BitVec 5} {i : Instr}
    (h : writeRow16 k t wc = some i) : BelongsAfterSync i := by
  unfold writeRow16 at h
  split at h <;> cases h <;> exact ⟨rfl, rfl⟩

theorem cmdRow32_belongsAfterSync {k : DeviceKind} {cmd : Command} {ignored : BitVec 2} {i : Instr}
    (h : cmdRow32 k cmd ignored = some i) : BelongsAfterSync i := by
  unfold cmdRow32 at h
  split at h <;> cases h <;> exact ⟨rfl, rfl⟩

theorem cmdRow16_belongsAfterSync {k : DeviceKind} {cmd : Command} {i : Instr}
    (h : cmdRow16 k cmd = some i) : BelongsAfterSync i := by
  unfold cmdRow16 at h
  split at h <;> cases h <;> exact ⟨rfl, rfl⟩

/-- A choice between a row and the generic write belongs where both do. -/
theorem getD_belongsAfterSync {row : Option Instr} {generic : Instr} (hrow : ∀ i, row = some i → BelongsAfterSync i)
    (hgeneric : BelongsAfterSync generic) : BelongsAfterSync (row.getD generic) := by
  cases row with
  | none => exact hgeneric
  | some i => exact hrow i rfl

/-- Whichever row a 32-bit Type-1 header is (log entry 15), it belongs to Synced mode. -/
theorem type1Row32_belongsAfterSync (c : Config) (k : DeviceKind) (reg : BitVec 14) (ignored : BitVec 2)
    (wc : BitVec 11) (next : Option Word) : BelongsAfterSync (type1Row32 c k reg ignored wc next) := by
  have generic : BelongsAfterSync (.t1write32 reg ignored wc) := ⟨rfl, rfl⟩
  unfold type1Row32
  split
  · exact generic
  · split
    · split
      · exact getD_belongsAfterSync (fun _ => cmdRow32_belongsAfterSync) generic
      · exact getD_belongsAfterSync (fun _ => writeRow32_belongsAfterSync) generic
    · exact generic

/-- Whichever row a 16-bit Type-1 header is (log entry 15), it belongs to Synced mode. -/
theorem type1Row16_belongsAfterSync (c : Config) (k : DeviceKind) (reg : BitVec 6) (wc : BitVec 5)
    (next : Option Word) : BelongsAfterSync (type1Row16 c k reg wc next) := by
  have generic : BelongsAfterSync (.t1write16 reg wc) := ⟨rfl, rfl⟩
  unfold type1Row16
  split
  · exact generic
  · split
    · split
      · exact getD_belongsAfterSync (fun _ => cmdRow16_belongsAfterSync) generic
      · exact getD_belongsAfterSync (fun _ => writeRow16_belongsAfterSync) generic
    · exact generic

/-- A 32-bit header word that decodes is one of the three framing words, or a class of Synced mode. -/
theorem decode32_ok {c : Config} {k : DeviceKind} {hdr : BitVec 32} {next : Option Word} {i : Instr}
    (h : decode32 c k hdr next = .ok i) :
    hdr = 0xFFFFFFFF ∨ (hdr = 0x000000BB ∧ i = .widthDetect) ∨ hdr = 0xAA995566 ∨ BelongsAfterSync i := by
  unfold decode32 at h
  split at h
  case isTrue hdummy => exact .inl hdummy
  split at h
  case isTrue hmarker => exact .inr (.inl ⟨hmarker, (Except.ok.inj h).symm⟩)
  split at h
  case isTrue hsync => exact .inr (.inr (.inl hsync))
  refine .inr (.inr (.inr ?_))
  split at h
  case isTrue => cases h; exact ⟨rfl, rfl⟩
  split at h
  case isTrue => cases h; exact ⟨rfl, rfl⟩
  split at h
  case isTrue => cases h; exact type1Row32_belongsAfterSync ..
  split at h
  case isTrue => cases h; exact ⟨rfl, rfl⟩
  case isFalse => cases h

/-- A 16-bit header word that decodes is one of the two framing words, or a class of Synced mode. -/
theorem decode16_ok {c : Config} {k : DeviceKind} {hdr : BitVec 16} {next : Option Word} {i : Instr}
    (h : decode16 c k hdr next = .ok i) : hdr = 0xFFFF ∨ hdr = 0xAA99 ∨ BelongsAfterSync i := by
  unfold decode16 at h
  split at h
  case isTrue hdummy => exact .inl hdummy
  split at h
  case isTrue hsync => exact .inr (.inl hsync)
  refine .inr (.inr ?_)
  split at h
  case isTrue => cases h; exact ⟨rfl, rfl⟩
  split at h
  case isTrue => cases h; exact type1Row16_belongsAfterSync ..
  split at h
  case isTrue => cases h; exact ⟨rfl, rfl⟩
  case isFalse => cases h

/-! ### The header word a step reads -/

/-- The bytes a step fetches begin with those of the header word. -/
theorem take_fetchBytes {s : State} {n : Nat} (hn : n ≤ longestEncoding) (h : s.position + n ≤ s.buf.len) :
    n ≤ s.fetchBytes.length ∧ s.fetchBytes.take n = s.buf.slice s.position n := by
  have hmin : n ≤ min longestEncoding (s.buf.len - s.position) := by omega
  rw [State.fetchBytes, Memory.slice_length, Memory.slice_take, Nat.min_eq_left hmin]
  exact ⟨hmin, rfl⟩

theorem word32_fetchBytes {s : State} (h : s.position + 4 ≤ s.buf.len) :
    word32 s.fetchBytes = some (s.buf.read s.position 4) := by
  obtain ⟨hlen, htake⟩ := take_fetchBytes (by decide) h
  rw [word32, if_pos hlen, htake, Memory.read]

theorem word16_fetchBytes {s : State} (h : s.position + 2 ≤ s.buf.len) :
    word16 s.fetchBytes = some ((s.buf.read s.position 2).setWidth 16) := by
  obtain ⟨hlen, htake⟩ := take_fetchBytes (by decide) h
  rw [word16, if_pos hlen, htake, Memory.read, BitVec.setWidth_ofNat_of_le (by decide)]

/-- A 16-bit word is the same number in its 32-bit container (R71). -/
theorem Memory.read_two_eq {m : Memory} {a : Nat} {w : BitVec 16} (h : (m.read a 2).setWidth 16 = w) :
    m.read a 2 = w.setWidth 32 := by
  have hlt : (m.read a 2).toNat < 2 ^ 16 := Memory.read_two_lt m a
  subst h
  apply BitVec.eq_of_toNat_eq
  rw [BitVec.toNat_setWidth, BitVec.toNat_setWidth, Nat.mod_eq_of_lt hlt, Nat.mod_eq_of_lt (m.read a 2).isLt]

theorem decode_header_wide {s : State} (hk : s.kind.wordBytes = 4) (h : s.position + 4 ≤ s.buf.len) :
    decode s.cfg s.kind .header s.fetchBytes =
      decode32 s.cfg s.kind (s.buf.read s.position 4) (word32 (s.fetchBytes.drop 4)) := by
  simp only [decode, hk, if_true, word32_fetchBytes h]

theorem decode_header_narrow {s : State} (hk : s.kind.wordBytes = 2) (h : s.position + 2 ≤ s.buf.len) :
    decode s.cfg s.kind .header s.fetchBytes =
      decode16 s.cfg s.kind ((s.buf.read s.position 2).setWidth 16)
        ((word16 (s.fetchBytes.drop 2)).map fun v => v.setWidth 32) := by
  simp [decode, hk, word16_fetchBytes h]

theorem DeviceKind.wordBytes_pos (k : DeviceKind) : 0 < k.wordBytes := by
  cases k <;> decide

/-- A step that has a header word fails at it when no instruction the word decodes to does anything else. -/
theorem step_unexpected {s : State} (hrun : s.status = .running) (hlen : s.position + s.kind.wordBytes ≤ s.buf.len)
    (hdecoded : ∀ i, decode s.cfg s.kind .header s.fetchBytes = .ok i →
      exec i s = .next (s.fail .unexpectedWord s.position)) :
    step s = .next (s.errored .unexpectedWord s.position) := by
  have hpos := DeviceKind.wordBytes_pos s.kind
  rcases step_cases s with ⟨hstop, -⟩ | ⟨-, hend, -⟩ | ⟨-, -, hcut, -⟩ | ⟨-, -, -, hstep⟩ | ⟨-, -, i, hi, hstep⟩
  · exact absurd hrun hstop
  · omega
  · omega
  · exact hstep
  · exact hstep.trans (hdecoded i hi)

/-- Settles O15: a word that decodes without being one of the framing words is of a class of Synced mode, whose instruction the
mode test refuses; the WidthDetect marker is refused by its flag. -/
theorem otherWordBeforeSyncIsUnexpected : Obligations.OtherWordBeforeSyncIsUnexpected := by
  intro s hrun hs hlen
  refine ⟨fun hk hdummy hsync hmarker => ?wide, fun hk hdummy hsync => ?narrow⟩
  case wide =>
    refine step_unexpected hrun hlen fun i hi => ?_
    rw [hk] at hlen hdummy hsync hmarker
    rw [decode_header_wide hk hlen] at hi
    rcases decode32_ok hi with hd | ⟨hm, rfl⟩ | hy | hafter
    · exact absurd hd hdummy
    · have hoff : s.widthDetect = false := by simpa [hm] using hmarker
      rw [exec_widthDetect, widthDetectPair_off hoff, settle_raise]
    · exact absurd hy hsync
    · exact exec_of_belongsAfterSync hafter hs
  case narrow =>
    refine step_unexpected hrun hlen fun i hi => ?_
    rw [hk] at hlen hdummy hsync
    rw [decode_header_narrow hk hlen] at hi
    rcases decode16_ok hi with hd | hy | hafter
    · exact absurd (Memory.read_two_eq hd) hdummy
    · exact absurd (Memory.read_two_eq hy) hsync
    · exact exec_of_belongsAfterSync hafter hs

end Sys2Proof.Machine

/-!
The bytes of a word (spec/20_memory.md R45, spec/30_encoding.md): a word's bytes read back as the word, and bytes that read as a
word are that word's.
-/

namespace Sys2Proof.Machine

theorem beValue_bytes32 (w : BitVec 32) : beValue (bytes32 w) = w.toNat := by
  have hlt := w.isLt
  simp only [bytes32, beValue, List.foldl, BitVec.extractLsb'_toNat, Nat.shiftRight_eq_div_pow]
  omega

theorem beValue_bytes16 (w : BitVec 16) : beValue (bytes16 w) = w.toNat := by
  have hlt := w.isLt
  simp only [bytes16, beValue, List.foldl, BitVec.extractLsb'_toNat, Nat.shiftRight_eq_div_pow]
  omega

/-- A word's bytes, whatever follows them, read as the word. -/
theorem word32_bytes32 (w : BitVec 32) (rest : List Byte) : word32 (bytes32 w ++ rest) = some w := by
  have htake : (bytes32 w ++ rest).take 4 = bytes32 w := rfl
  have hlen : 4 ≤ (bytes32 w ++ rest).length := by simp [bytes32]
  rw [word32, if_pos hlen, htake, beValue_bytes32, BitVec.ofNat_toNat, BitVec.setWidth_eq]

theorem word16_bytes16 (w : BitVec 16) (rest : List Byte) : word16 (bytes16 w ++ rest) = some w := by
  have htake : (bytes16 w ++ rest).take 2 = bytes16 w := rfl
  have hlen : 2 ≤ (bytes16 w ++ rest).length := by simp [bytes16]
  rw [word16, if_pos hlen, htake, beValue_bytes16, BitVec.ofNat_toNat, BitVec.setWidth_eq]

/-- Byte sequences of one length are the same number only if they are the same. -/
theorem beValue_injective {bs cs : List Byte} (hlen : bs.length = cs.length) (h : beValue bs = beValue cs) : bs = cs := by
  induction bs using List.reverseRecOn generalizing cs with
  | nil => exact (List.length_eq_zero_iff.mp hlen.symm).symm
  | append_singleton bs b ih =>
    obtain ⟨ds, d, rfl⟩ : ∃ ds d, cs = ds ++ [d] :=
      ⟨_, _, (List.dropLast_append_getLast (List.ne_nil_of_length_pos (by simp [← hlen]))).symm⟩
    have hb := b.isLt
    have hd := d.isLt
    rw [beValue_concat, beValue_concat] at h
    have hrest : bs = ds := ih (by simpa using hlen) (by omega)
    have hlast : b = d := BitVec.eq_of_toNat_eq (by omega)
    rw [hrest, hlast]

/-- Bytes that read as a word begin with that word's bytes. -/
theorem take_of_word32 {bs : List Byte} {w : BitVec 32} (h : word32 bs = some w) :
    4 ≤ bs.length ∧ bs.take 4 = bytes32 w := by
  unfold word32 at h
  split at h
  case isFalse => cases h
  case isTrue hlen =>
    obtain rfl := Option.some.inj h
    have htake : (bs.take 4).length = 4 := by simpa using hlen
    have hlt : beValue (bs.take 4) < 2 ^ 32 := by
      calc beValue (bs.take 4) < 256 ^ (bs.take 4).length := beValue_lt _
        _ = 2 ^ 32 := by rw [htake]; norm_num
    refine ⟨hlen, beValue_injective htake ?_⟩
    rw [beValue_bytes32, BitVec.toNat_ofNat, Nat.mod_eq_of_lt hlt]

theorem take_of_word16 {bs : List Byte} {w : BitVec 16} (h : word16 bs = some w) :
    2 ≤ bs.length ∧ bs.take 2 = bytes16 w := by
  unfold word16 at h
  split at h
  case isFalse => cases h
  case isTrue hlen =>
    obtain rfl := Option.some.inj h
    have htake : (bs.take 2).length = 2 := by simpa using hlen
    have hlt : beValue (bs.take 2) < 2 ^ 16 := by
      calc beValue (bs.take 2) < 256 ^ (bs.take 2).length := beValue_lt _
        _ = 2 ^ 16 := by rw [htake]; norm_num
    refine ⟨hlen, beValue_injective htake ?_⟩
    rw [beValue_bytes16, BitVec.toNat_ofNat, Nat.mod_eq_of_lt hlt]

end Sys2Proof.Machine

/-!
The rows of the opcode table (spec/30_encoding.md R73, log entry 15): what the `WRITE_` or `CMD_` row of a default table entry is
and runs as, and which row a Type-1 header is.
-/

namespace Sys2Proof.Machine

/-! ### The row of a table entry -/

/-- The row of a register table entry of a 32-bit kind: its form, its bytes and the procedure it runs. -/
structure IsWriteRow32 (k : DeviceKind) (e : RegEntry) (ignored : BitVec 2) (wc : BitVec 11) (i : Instr) : Prop where
  form : i.form = .write k e
  bytes : encode i = bytes32 (type1Header32 (BitVec.ofNat 14 e.id) ignored wc)
  runs : ∀ s, exec i s = settle s (rowWrite s 4 e wc.toNat)

structure IsWriteRow16 (k : DeviceKind) (e : RegEntry) (wc : BitVec 5) (i : Instr) : Prop where
  form : i.form = .write k e
  bytes : encode i = bytes16 (type1Header16 (BitVec.ofNat 6 e.id) wc)
  runs : ∀ s, exec i s = settle s (rowWrite s 2 e wc.toNat)

structure IsCmdRow32 (k : DeviceKind) (e : CmdEntry) (ignored : BitVec 2) (i : Instr) : Prop where
  form : i.form = .command k e
  bytes : encode i = cmdBytes32 ignored e.code
  runs : ∀ s, exec i s = settle s (commandWrite s 4 k.cmdId e.code e.command)

structure IsCmdRow16 (k : DeviceKind) (e : CmdEntry) (i : Instr) : Prop where
  form : i.form = .command k e
  bytes : encode i = cmdBytes16 (e.code.setWidth 16)
  runs : ∀ s, exec i s = settle s (commandWrite s 2 k.cmdId e.code e.command)

/-- Every entry of a default register table of a 32-bit kind has its row (R36 to R38). -/
theorem writeRow32_of_mem {k : DeviceKind} (hk : k.wordBytes = 4) {e : RegEntry} (he : e ∈ defaultRegTables.get k)
    (ignored : BitVec 2) (wc : BitVec 11) :
    ∃ i, writeRow32 k e.tag ignored wc = some i ∧ IsWriteRow32 k e ignored wc i := by
  cases k with
  | spartan3A | spartan6 => cases hk
  | virtexOriginal | virtexII | virtexIVPlus =>
    fin_cases he <;> exact ⟨_, rfl, rfl, rfl, fun _ => rfl⟩

theorem writeRow16_of_mem {k : DeviceKind} (hk : k.wordBytes = 2) {e : RegEntry} (he : e ∈ defaultRegTables.get k)
    (wc : BitVec 5) : ∃ i, writeRow16 k e.tag wc = some i ∧ IsWriteRow16 k e wc i := by
  cases k with
  | virtexOriginal | virtexII | virtexIVPlus => cases hk
  | spartan3A | spartan6 =>
    fin_cases he <;> exact ⟨_, rfl, rfl, rfl, fun _ => rfl⟩

/-- Every entry of a default command table has its row (R146). -/
theorem cmdRow32_of_mem {k : DeviceKind} (hk : k.wordBytes = 4) {e : CmdEntry} (he : e ∈ defaultCmdTables.get k)
    (ignored : BitVec 2) : ∃ i, cmdRow32 k e.command ignored = some i ∧ IsCmdRow32 k e ignored i := by
  cases k with
  | spartan3A | spartan6 => cases hk
  | virtexOriginal | virtexII | virtexIVPlus =>
    fin_cases he <;> exact ⟨_, rfl, rfl, rfl, fun _ => rfl⟩

theorem cmdRow16_of_mem {k : DeviceKind} (hk : k.wordBytes = 2) {e : CmdEntry} (he : e ∈ defaultCmdTables.get k) :
    ∃ i, cmdRow16 k e.command = some i ∧ IsCmdRow16 k e i := by
  cases k with
  | virtexOriginal | virtexII | virtexIVPlus => cases hk
  | spartan3A | spartan6 =>
    fin_cases he <;> exact ⟨_, rfl, rfl, rfl, fun _ => rfl⟩

/-! ### Which row a Type-1 header is -/

theorem findReg_eq_some {table : List RegEntry} {id : RegId} {e : RegEntry} (h : findReg table id = some e) :
    e ∈ table ∧ e.id = id :=
  ⟨List.mem_of_find?_eq_some h, by simpa using List.find?_some h⟩

theorem findCmd_eq_some {table : List CmdEntry} {code : Word} {cmd : Command} (h : findCmd table code = some cmd) :
    ⟨code, cmd⟩ ∈ table := by
  obtain ⟨e, he, rfl⟩ := Option.map_eq_some_iff.mp h
  have hcode : e.code = code := by simpa using List.find?_some he
  exact hcode ▸ List.mem_of_find?_eq_some he

theorem hasRow_eq_false {c : Config} {k : DeviceKind} {id : RegId}
    (h : ∀ e, c.lookupReg k id = some e → findReg (defaultRegTables.get k) id ≠ some e) : hasRow c k id = false := by
  unfold hasRow
  cases he : c.lookupReg k id with
  | none => rfl
  | some e => simpa using fun heq => h e he heq.symm

theorem rowCommand_eq_some {c : Config} {k : DeviceKind} {e : RegEntry} {wc : Nat} {next : Option Word} {cmd : Command} :
    rowCommand c k e wc next = some cmd ↔
      ∃ code, next = some code ∧ e = ⟨k.cmdId, .cmd, .one⟩ ∧ wc = 1 ∧ c.lookupCmd k code = some cmd ∧
        findCmd (defaultCmdTables.get k) code = some cmd := by
  cases next with
  | none => simp [rowCommand]
  | some code =>
    simp only [rowCommand, Option.some.injEq, exists_eq_left']
    split
    case isTrue h =>
      obtain ⟨he, hwc, hcmd⟩ := h
      exact ⟨fun h => ⟨he, hwc, h, hcmd ▸ h⟩, fun h => h.2.2.1⟩
    case isFalse h =>
      refine ⟨nofun, fun ⟨he, hwc, hc, hd⟩ => absurd ⟨he, hwc, hc.trans hd.symm⟩ h⟩

/-- What a Type-1 header of a 32-bit kind is (log entry 15): the generic row where the session's table does not have the default
entry, else the `WRITE_` row of the entry or the `CMD_` row of the word after the header. -/
inductive Type1Choice32 (c : Config) (k : DeviceKind) (reg : BitVec 14) (ignored : BitVec 2) (wc : BitVec 11)
    (next : Option Word) : Instr → Prop where
  | generic (h : hasRow c k reg.toNat = false) : Type1Choice32 c k reg ignored wc next (.t1write32 reg ignored wc)
  | write (e : RegEntry) {i : Instr} (he : c.lookupReg k reg.toNat = some e) (hid : e.id = reg.toNat)
      (hrow : IsWriteRow32 k e ignored wc i) : Type1Choice32 c k reg ignored wc next i
  | command (code : Word) (cmd : Command) {i : Instr} (hnext : next = some code)
      (he : c.lookupReg k reg.toNat = some ⟨k.cmdId, .cmd, .one⟩) (hid : k.cmdId = reg.toNat) (hwc : wc.toNat = 1)
      (hcmd : c.lookupCmd k code = some cmd) (hrow : IsCmdRow32 k ⟨code, cmd⟩ ignored i) :
      Type1Choice32 c k reg ignored wc next i

inductive Type1Choice16 (c : Config) (k : DeviceKind) (reg : BitVec 6) (wc : BitVec 5) (next : Option Word) :
    Instr → Prop where
  | generic (h : hasRow c k reg.toNat = false) : Type1Choice16 c k reg wc next (.t1write16 reg wc)
  | write (e : RegEntry) {i : Instr} (he : c.lookupReg k reg.toNat = some e) (hid : e.id = reg.toNat)
      (hrow : IsWriteRow16 k e wc i) : Type1Choice16 c k reg wc next i
  | command (code : Word) (cmd : Command) {i : Instr} (hnext : next = some code)
      (he : c.lookupReg k reg.toNat = some ⟨k.cmdId, .cmd, .one⟩) (hid : k.cmdId = reg.toNat) (hwc : wc.toNat = 1)
      (hcmd : c.lookupCmd k code = some cmd) (hrow : IsCmdRow16 k ⟨code, cmd⟩ i) :
      Type1Choice16 c k reg wc next i

theorem type1Row32_choice (c : Config) {k : DeviceKind} (hk : k.wordBytes = 4) (reg : BitVec 14) (ignored : BitVec 2)
    (wc : BitVec 11) (next : Option Word) :
    Type1Choice32 c k reg ignored wc next (type1Row32 c k reg ignored wc next) := by
  unfold type1Row32
  split
  case h_1 hnone => exact .generic (hasRow_eq_false fun e he => by simp [hnone] at he)
  case h_2 e he =>
    split
    case isFalse hd =>
      exact .generic (hasRow_eq_false fun e' he' => (Option.some.inj (he.symm.trans he')) ▸ hd)
    case isTrue hd =>
      obtain ⟨hmem, hid⟩ := findReg_eq_some hd
      split
      case h_1 cmd hcmd =>
        obtain ⟨code, hnext, rfl, hwc, hlook, hdef⟩ := rowCommand_eq_some.mp hcmd
        obtain ⟨i, hi, hrow⟩ := cmdRow32_of_mem hk (findCmd_eq_some hdef) ignored
        rw [hi]
        exact .command code cmd hnext he hid hwc hlook hrow
      case h_2 =>
        obtain ⟨i, hi, hrow⟩ := writeRow32_of_mem hk hmem ignored wc
        rw [hi]
        exact .write e he hid hrow

theorem type1Row16_choice (c : Config) {k : DeviceKind} (hk : k.wordBytes = 2) (reg : BitVec 6) (wc : BitVec 5)
    (next : Option Word) : Type1Choice16 c k reg wc next (type1Row16 c k reg wc next) := by
  unfold type1Row16
  split
  case h_1 hnone => exact .generic (hasRow_eq_false fun e he => by simp [hnone] at he)
  case h_2 e he =>
    split
    case isFalse hd =>
      exact .generic (hasRow_eq_false fun e' he' => (Option.some.inj (he.symm.trans he')) ▸ hd)
    case isTrue hd =>
      obtain ⟨hmem, hid⟩ := findReg_eq_some hd
      split
      case h_1 cmd hcmd =>
        obtain ⟨code, hnext, rfl, hwc, hlook, hdef⟩ := rowCommand_eq_some.mp hcmd
        obtain ⟨i, hi, hrow⟩ := cmdRow16_of_mem hk (findCmd_eq_some hdef)
        rw [hi]
        exact .command code cmd hnext he hid hwc hlook hrow
      case h_2 =>
        obtain ⟨i, hi, hrow⟩ := writeRow16_of_mem hk hmem wc
        rw [hi]
        exact .write e he hid hrow

/-! ### The rows run as the generic write -/

theorem exec_t1write32 (reg : BitVec 14) (ignored : BitVec 2) (wc : BitVec 11) (s : State) :
    exec (.t1write32 reg ignored wc) s = settle s (type1Write s 4 reg.toNat wc.toNat) := rfl

theorem exec_t1write16 (reg : BitVec 6) (wc : BitVec 5) (s : State) :
    exec (.t1write16 reg wc) s = settle s (type1Write s 2 reg.toNat wc.toNat) := rfl

/-- A `WRITE_` row whose entry the session's table has is the generic write. -/
theorem rowWrite_eq_type1Write {s : State} {reg : RegId} {e : RegEntry} (h : s.lookupReg reg = some e) (wb n : Nat) :
    rowWrite s wb e n = type1Write s wb reg n := by
  simp only [rowWrite, type1Write, h]

/-- A `CMD_` row whose code word stands after the header is the generic write of one word. -/
theorem commandWrite_eq_type1Write {s : State} {wb : Nat} {reg : RegId} {code : Word} {cmd : Command}
    (he : s.lookupReg reg = some ⟨reg, .cmd, .one⟩) (hcode : peekWord s.buf (s.position + wb) wb = some code)
    (hcmd : s.lookupCmd code = some cmd) : commandWrite s wb reg code cmd = type1Write s wb reg 1 := by
  obtain ⟨hlen, rfl⟩ := peekWord_eq_some.mp hcode
  have hpay := payload_ok (p := s.position + wb) (wb := wb) (n := 1) (by omega : s.position + wb + 1 * wb ≤ s.buf.len)
  simp [commandWrite, type1Write, hpay, he, writeBody, cardAdmits, build, wordsAt_one, commandDecode, hcmd]

theorem exec_type1Choice32 {s : State} {reg : BitVec 14} {ignored : BitVec 2} {wc : BitVec 11} {i : Instr}
    (h : Type1Choice32 s.cfg s.kind reg ignored wc (peekWord s.buf (s.position + 4) 4) i) :
    exec i s = exec (.t1write32 reg ignored wc) s := by
  rw [exec_t1write32]
  cases h with
  | generic h => exact exec_t1write32 reg ignored wc s
  | write e he hid hrow => rw [hrow.runs, rowWrite_eq_type1Write he]
  | command code cmd hnext he hid hwc hcmd hrow =>
    rw [← hid] at he
    rw [hrow.runs, commandWrite_eq_type1Write he hnext hcmd, hid, hwc]

theorem exec_type1Choice16 {s : State} {reg : BitVec 6} {wc : BitVec 5} {i : Instr}
    (h : Type1Choice16 s.cfg s.kind reg wc (peekWord s.buf (s.position + 2) 2) i) :
    exec i s = exec (.t1write16 reg wc) s := by
  rw [exec_t1write16]
  cases h with
  | generic h => exact exec_t1write16 reg wc s
  | write e he hid hrow => rw [hrow.runs, rowWrite_eq_type1Write he]
  | command code cmd hnext he hid hwc hcmd hrow =>
    rw [← hid] at he
    rw [hrow.runs, commandWrite_eq_type1Write he hnext hcmd, hid, hwc]

/-- Settles O25: whichever row the header is, its procedure is the generic one, by the entry and the code word that made the
decoder pick it. -/
theorem rowsRunAsTheGenericWrite : Obligations.RowsRunAsTheGenericWrite :=
  ⟨fun s reg ignored wc hk => exec_type1Choice32 (type1Row32_choice s.cfg hk reg ignored wc _),
    fun s reg wc hk => exec_type1Choice16 (type1Row16_choice s.cfg hk reg wc _)⟩

end Sys2Proof.Machine

/-!
The decoder and the encoder (spec/30_encoding.md): the classes of a header word with the bits each of them fixes, and the
statements about decoding.
-/

namespace Sys2Proof.Machine

/-! ### Header words and their fields -/

theorem toNat_append {m n : Nat} (a : BitVec m) (b : BitVec n) : (a ++ b).toNat = a.toNat * 2 ^ n + b.toNat := by
  rw [BitVec.toNat_append, Nat.shiftLeft_eq, Nat.mul_comm, ← Nat.two_pow_add_eq_or_of_lt b.isLt]

theorem type1Header32_toNat (reg : BitVec 14) (ignored : BitVec 2) (wc : BitVec 11) :
    (type1Header32 reg ignored wc).toNat = 6 * 2 ^ 27 + reg.toNat * 2 ^ 13 + ignored.toNat * 2 ^ 11 + wc.toNat := by
  simp only [type1Header32, toNat_append, BitVec.toNat_ofNat]
  omega

theorem type1Header16_toNat (reg : BitVec 6) (wc : BitVec 5) :
    (type1Header16 reg wc).toNat = 6 * 2 ^ 11 + reg.toNat * 2 ^ 5 + wc.toNat := by
  simp only [type1Header16, toNat_append, BitVec.toNat_ofNat]
  omega

theorem longHeader32_toNat (wc : BitVec 27) : (0b01010#5 ++ wc : BitVec 32).toNat = 10 * 2 ^ 27 + wc.toNat := by
  simp only [toNat_append, BitVec.toNat_ofNat]

theorem longHeader16_toNat (low : BitVec 11) : (0b01010#5 ++ low : BitVec 16).toNat = 10 * 2 ^ 11 + low.toNat := by
  simp only [toNat_append, BitVec.toNat_ofNat]

/-- A field of a word as a number. -/
theorem field_toNat {w : Nat} (v : BitVec w) (low n : Nat) : (v.extractLsb' low n).toNat = v.toNat / 2 ^ low % 2 ^ n := by
  rw [BitVec.extractLsb'_toNat, Nat.shiftRight_eq_div_pow]

/-- The fields of a Type-1 header (R60). -/
theorem type1Header32_fields (reg : BitVec 14) (ignored : BitVec 2) (wc : BitVec 11) :
    (type1Header32 reg ignored wc).extractLsb' 27 5 = 0b00110#5 ∧
    (type1Header32 reg ignored wc).extractLsb' 13 14 = reg ∧
    (type1Header32 reg ignored wc).extractLsb' 11 2 = ignored ∧
    (type1Header32 reg ignored wc).extractLsb' 0 11 = wc := by
  have hreg := reg.isLt
  have hignored := ignored.isLt
  have hwc := wc.isLt
  have hop : (0b00110#5).toNat = 6 := rfl
  refine ⟨?_, ?_, ?_, ?_⟩ <;>
  · apply BitVec.eq_of_toNat_eq
    rw [field_toNat, type1Header32_toNat]
    omega

theorem type1Header16_fields (reg : BitVec 6) (wc : BitVec 5) :
    (type1Header16 reg wc).extractLsb' 11 5 = 0b00110#5 ∧ (type1Header16 reg wc).extractLsb' 5 6 = reg ∧
    (type1Header16 reg wc).extractLsb' 0 5 = wc := by
  have hreg := reg.isLt
  have hwc := wc.isLt
  have hop : (0b00110#5).toNat = 6 := rfl
  refine ⟨?_, ?_, ?_⟩ <;>
  · apply BitVec.eq_of_toNat_eq
    rw [field_toNat, type1Header16_toNat]
    omega

theorem longHeader32_fields (wc : BitVec 27) :
    (0b01010#5 ++ wc : BitVec 32).extractLsb' 27 5 = 0b01010#5 ∧ (0b01010#5 ++ wc : BitVec 32).extractLsb' 0 27 = wc := by
  have hwc := wc.isLt
  have hop : (0b01010#5).toNat = 10 := rfl
  refine ⟨?_, ?_⟩ <;>
  · apply BitVec.eq_of_toNat_eq
    rw [field_toNat, longHeader32_toNat]
    omega

theorem longHeader16_fields (low : BitVec 11) :
    (0b01010#5 ++ low : BitVec 16).extractLsb' 11 5 = 0b01010#5 ∧ (0b01010#5 ++ low : BitVec 16).extractLsb' 0 11 = low := by
  have hlow := low.isLt
  have hop : (0b01010#5).toNat = 10 := rfl
  refine ⟨?_, ?_⟩ <;>
  · apply BitVec.eq_of_toNat_eq
    rw [field_toNat, longHeader16_toNat]
    omega

/-- A word whose top bits are those of a Type-1 write is the header of its fields. -/
theorem eq_type1Header32 {hdr : BitVec 32} (h : hdr.extractLsb' 27 5 = 0b00110#5) :
    hdr = type1Header32 (hdr.extractLsb' 13 14) (hdr.extractLsb' 11 2) (hdr.extractLsb' 0 11) := by
  have htop := congrArg BitVec.toNat h
  have hlt := hdr.isLt
  apply BitVec.eq_of_toNat_eq
  rw [type1Header32_toNat]
  simp only [field_toNat, BitVec.toNat_ofNat] at htop ⊢
  omega

theorem eq_type1Header16 {hdr : BitVec 16} (h : hdr.extractLsb' 11 5 = 0b00110#5) :
    hdr = type1Header16 (hdr.extractLsb' 5 6) (hdr.extractLsb' 0 5) := by
  have htop := congrArg BitVec.toNat h
  have hlt := hdr.isLt
  apply BitVec.eq_of_toNat_eq
  rw [type1Header16_toNat]
  simp only [field_toNat, BitVec.toNat_ofNat] at htop ⊢
  omega

theorem eq_longHeader32 {hdr : BitVec 32} (h : hdr.extractLsb' 27 5 = 0b01010#5) :
    hdr = 0b01010#5 ++ hdr.extractLsb' 0 27 := by
  have htop := congrArg BitVec.toNat h
  have hlt := hdr.isLt
  apply BitVec.eq_of_toNat_eq
  rw [longHeader32_toNat]
  simp only [field_toNat, BitVec.toNat_ofNat] at htop ⊢
  omega

theorem eq_longHeader16 {hdr : BitVec 16} (h : hdr.extractLsb' 11 5 = 0b01010#5) :
    hdr = 0b01010#5 ++ hdr.extractLsb' 0 11 := by
  have htop := congrArg BitVec.toNat h
  have hlt := hdr.isLt
  apply BitVec.eq_of_toNat_eq
  rw [longHeader16_toNat]
  simp only [field_toNat, BitVec.toNat_ofNat] at htop ⊢
  omega

/-! ### The classes of a header word (R59) -/

/-- The class of a 32-bit header word, with its fields: what it decodes to. -/
inductive HeaderClass32 (c : Config) (k : DeviceKind) (next : Option Word) : BitVec 32 → Instr → Prop where
  | dummy : HeaderClass32 c k next 0xFFFFFFFF .dummy32
  | widthDetect : HeaderClass32 c k next 0x000000BB .widthDetect
  | sync : HeaderClass32 c k next 0xAA995566 .sync32
  | bugFdri : HeaderClass32 c k next 0x00000000 .bugFdri
  | nop : HeaderClass32 c k next 0x20000000 .nop32
  | type1 (reg : BitVec 14) (ignored : BitVec 2) (wc : BitVec 11) {i : Instr}
      (h : Type1Choice32 c k reg ignored wc next i) : HeaderClass32 c k next (type1Header32 reg ignored wc) i
  | type2 (wc : BitVec 27) : HeaderClass32 c k next (0b01010#5 ++ wc) (.t2write wc)

inductive HeaderClass16 (c : Config) (k : DeviceKind) (next : Option Word) : BitVec 16 → Instr → Prop where
  | dummy : HeaderClass16 c k next 0xFFFF .dummy16
  | sync : HeaderClass16 c k next 0xAA99 .sync16
  | nop : HeaderClass16 c k next 0x2000 .nop16
  | type1 (reg : BitVec 6) (wc : BitVec 5) {i : Instr} (h : Type1Choice16 c k reg wc next i) :
      HeaderClass16 c k next (type1Header16 reg wc) i
  | long (low : BitVec 11) : HeaderClass16 c k next (0b01010#5 ++ low) (.lwrite low)

theorem decode32_class {c : Config} {k : DeviceKind} (hk : k.wordBytes = 4) {hdr : BitVec 32} {next : Option Word}
    {i : Instr} (h : decode32 c k hdr next = .ok i) : HeaderClass32 c k next hdr i := by
  unfold decode32 at h
  split at h
  case isTrue hd => cases h; exact hd ▸ .dummy
  split at h
  case isTrue hd => cases h; exact hd ▸ .widthDetect
  split at h
  case isTrue hd => cases h; exact hd ▸ .sync
  split at h
  case isTrue hd => cases h; exact hd ▸ .bugFdri
  split at h
  case isTrue hd => cases h; exact hd ▸ .nop
  split at h
  case isTrue hd =>
    cases h
    have class1 := HeaderClass32.type1 _ _ _ (type1Row32_choice c hk (hdr.extractLsb' 13 14) (hdr.extractLsb' 11 2)
      (hdr.extractLsb' 0 11) next)
    rwa [← eq_type1Header32 hd] at class1
  split at h
  case isTrue hd =>
    cases h
    have class2 := HeaderClass32.type2 (c := c) (k := k) (next := next) (hdr.extractLsb' 0 27)
    rwa [← eq_longHeader32 hd] at class2
  case isFalse => cases h

theorem decode16_class {c : Config} {k : DeviceKind} (hk : k.wordBytes = 2) {hdr : BitVec 16} {next : Option Word}
    {i : Instr} (h : decode16 c k hdr next = .ok i) : HeaderClass16 c k next hdr i := by
  unfold decode16 at h
  split at h
  case isTrue hd => cases h; exact hd ▸ .dummy
  split at h
  case isTrue hd => cases h; exact hd ▸ .sync
  split at h
  case isTrue hd => cases h; exact hd ▸ .nop
  split at h
  case isTrue hd =>
    cases h
    have class1 := HeaderClass16.type1 _ _ (type1Row16_choice c hk (hdr.extractLsb' 5 6) (hdr.extractLsb' 0 5) next)
    rwa [← eq_type1Header16 hd] at class1
  split at h
  case isTrue hd =>
    cases h
    have class2 := HeaderClass16.long (c := c) (k := k) (next := next) (hdr.extractLsb' 0 11)
    rwa [← eq_longHeader16 hd] at class2
  case isFalse => cases h

/-- A word whose top five bits are `op` is none of the exact words that have other top bits. -/
theorem ne_of_top32 {hdr word : BitVec 32} {op : BitVec 5} (h : hdr.extractLsb' 27 5 = op)
    (hw : word.extractLsb' 27 5 ≠ op) : hdr ≠ word := fun e => hw (e ▸ h)

theorem ne_of_top16 {hdr word : BitVec 16} {op : BitVec 5} (h : hdr.extractLsb' 11 5 = op)
    (hw : word.extractLsb' 11 5 ≠ op) : hdr ≠ word := fun e => hw (e ▸ h)

theorem decode32_type1 (c : Config) (k : DeviceKind) (reg : BitVec 14) (ignored : BitVec 2) (wc : BitVec 11)
    (next : Option Word) :
    decode32 c k (type1Header32 reg ignored wc) next = .ok (type1Row32 c k reg ignored wc next) := by
  obtain ⟨htop, hreg, hignored, hwc⟩ := type1Header32_fields reg ignored wc
  rw [decode32, if_neg (ne_of_top32 htop (by decide)), if_neg (ne_of_top32 htop (by decide)),
    if_neg (ne_of_top32 htop (by decide)), if_neg (ne_of_top32 htop (by decide)), if_neg (ne_of_top32 htop (by decide)),
    if_pos htop, hreg, hignored, hwc]

theorem decode32_type2 (c : Config) (k : DeviceKind) (wc : BitVec 27) (next : Option Word) :
    decode32 c k (0b01010#5 ++ wc) next = .ok (.t2write wc) := by
  obtain ⟨htop, hwc⟩ := longHeader32_fields wc
  rw [decode32, if_neg (ne_of_top32 htop (by decide)), if_neg (ne_of_top32 htop (by decide)),
    if_neg (ne_of_top32 htop (by decide)), if_neg (ne_of_top32 htop (by decide)), if_neg (ne_of_top32 htop (by decide)),
    if_neg (by rw [htop]; decide), if_pos htop, hwc]

theorem decode16_type1 (c : Config) (k : DeviceKind) (reg : BitVec 6) (wc : BitVec 5) (next : Option Word) :
    decode16 c k (type1Header16 reg wc) next = .ok (type1Row16 c k reg wc next) := by
  obtain ⟨htop, hreg, hwc⟩ := type1Header16_fields reg wc
  rw [decode16, if_neg (ne_of_top16 htop (by decide)), if_neg (ne_of_top16 htop (by decide)),
    if_neg (ne_of_top16 htop (by decide)), if_pos htop, hreg, hwc]

theorem decode16_long (c : Config) (k : DeviceKind) (low : BitVec 11) (next : Option Word) :
    decode16 c k (0b01010#5 ++ low) next = .ok (.lwrite low) := by
  obtain ⟨htop, hlow⟩ := longHeader16_fields low
  rw [decode16, if_neg (ne_of_top16 htop (by decide)), if_neg (ne_of_top16 htop (by decide)),
    if_neg (ne_of_top16 htop (by decide)), if_neg (by rw [htop]; decide), if_pos htop, hlow]

/-! ### Decoding the bytes of a word -/

theorem decode_bytes32 (c : Config) {k : DeviceKind} (hk : k.wordBytes = 4) (hdr : BitVec 32) (rest : List Byte) :
    decode c k .header (bytes32 hdr ++ rest) = decode32 c k hdr (word32 rest) := by
  simp only [decode, hk, if_true, word32_bytes32]
  rfl

theorem decode_bytes16 (c : Config) {k : DeviceKind} (hk : k.wordBytes = 2) (hdr : BitVec 16) (rest : List Byte) :
    decode c k .header (bytes16 hdr ++ rest) = decode16 c k hdr ((word16 rest).map fun v => v.setWidth 32) := by
  simp only [decode, hk, word16_bytes16]
  rfl

/-- Settles O1: R74's words, evaluated. -/
theorem sourceWordsDecode : Obligations.SourceWordsDecode := by
  refine ⟨?_, ?_, ?_, ?_, ?_⟩ <;> decide

theorem top32_eq_iff (hdr : BitVec 32) (op : BitVec 5) : hdr.extractLsb' 27 5 = op ↔ hdr >>> 27 = op.setWidth 32 := by
  have hlt := hdr.isLt
  have hop := op.isLt
  rw [← BitVec.toNat_inj, ← BitVec.toNat_inj, field_toNat, BitVec.toNat_ushiftRight, Nat.shiftRight_eq_div_pow,
    BitVec.toNat_setWidth]
  omega

theorem top16_eq_iff (hdr : BitVec 16) (op : BitVec 5) : hdr.extractLsb' 11 5 = op ↔ hdr >>> 11 = op.setWidth 16 := by
  have hlt := hdr.isLt
  have hop := op.isLt
  rw [← BitVec.toNat_inj, ← BitVec.toNat_inj, field_toNat, BitVec.toNat_ushiftRight, Nat.shiftRight_eq_div_pow,
    BitVec.toNat_setWidth]
  omega

theorem decode32_refuses_iff (c : Config) (k : DeviceKind) (hdr : BitVec 32) (next : Option Word) :
    decode32 c k hdr next = .error (.illegalWord hdr) ↔
      hdr ∉ [0xFFFFFFFF#32, 0x000000BB#32, 0xAA995566#32, 0x00000000#32, 0x20000000#32] ∧
      hdr >>> 27 ≠ 0b00110#32 ∧ hdr >>> 27 ≠ 0b01010#32 := by
  have htop1 : hdr.extractLsb' 27 5 = 0b00110#5 ↔ hdr >>> 27 = 0b00110#32 := top32_eq_iff hdr _
  have htop2 : hdr.extractLsb' 27 5 = 0b01010#5 ↔ hdr >>> 27 = 0b01010#32 := top32_eq_iff hdr _
  rw [Ne, Ne, ← htop1, ← htop2]
  unfold decode32
  split_ifs <;> simp_all

theorem decode16_refuses_iff (c : Config) (k : DeviceKind) (hdr : BitVec 16) (next : Option Word) :
    decode16 c k hdr next = .error (.illegalWord (hdr.setWidth 32)) ↔
      hdr ∉ [0xFFFF#16, 0xAA99#16, 0x2000#16] ∧ hdr >>> 11 ≠ 0b00110#16 ∧ hdr >>> 11 ≠ 0b01010#16 := by
  have htop1 : hdr.extractLsb' 11 5 = 0b00110#5 ↔ hdr >>> 11 = 0b00110#16 := top16_eq_iff hdr _
  have htop2 : hdr.extractLsb' 11 5 = 0b01010#5 ↔ hdr >>> 11 = 0b01010#16 := top16_eq_iff hdr _
  rw [Ne, Ne, ← htop1, ← htop2]
  unfold decode16
  split_ifs <;> simp_all

/-- Settles O4: the decoder's tests are the five (three) exact words and the two values of the top five bits. -/
theorem decoderRefusesExactlyTheIllegalHeaders : Obligations.DecoderRefusesExactlyTheIllegalHeaders := by
  refine fun c k rest => ⟨fun hk hdr => ?_, fun hk hdr => ?_⟩
  · rw [decode_bytes32 c hk, decode32_refuses_iff]
  · rw [decode_bytes16 c hk, decode16_refuses_iff]

end Sys2Proof.Machine

/-!
Decode and encode agree (spec/30_encoding.md sections 1 to 6): from an instruction's form to the decoder's row, and from what the
decoder reads back to the bytes; and the header words that no class of Synced mode has.
-/

namespace Sys2Proof.Machine

/-! ### What the decoder reads keeps its bits -/

theorem ofNat_toNat_eq {w : Nat} {reg : BitVec w} {id : Nat} (h : id = reg.toNat) : BitVec.ofNat w id = reg := by
  rw [h, BitVec.ofNat_toNat, BitVec.setWidth_eq]

theorem cmdId_of_wide {k : DeviceKind} (hk : k.wordBytes = 4) : k.cmdId = 4 := by
  cases k with
  | virtexOriginal | virtexII | virtexIVPlus => rfl
  | spartan3A | spartan6 => cases hk

theorem cmdId_of_narrow {k : DeviceKind} (hk : k.wordBytes = 2) : k.cmdId = 5 := by
  cases k with
  | virtexOriginal | virtexII | virtexIVPlus => cases hk
  | spartan3A | spartan6 => rfl

/-- What decoding keeps: the instruction is one the session can meet at a header, its encoding begins with the header word, and that
of a `CMD_` row is header and code word. -/
structure KeepsBits (c : Config) (k : DeviceKind) (header : List Byte) (next : Option Word) (codeBytes : Word → List Byte)
    (i : Instr) : Prop where
  wf : i.wf c k = true
  place : i.place = .header
  startsWith : header <+: encode i
  command : ∀ rk e, i.form = .command rk e → ∃ code, next = some code ∧ encode i = header ++ codeBytes code

theorem Type1Choice32.keepsBits {c : Config} {k : DeviceKind} (hk : k.wordBytes = 4) {reg : BitVec 14}
    {ignored : BitVec 2} {wc : BitVec 11} {next : Option Word} {i : Instr} (h : Type1Choice32 c k reg ignored wc next i) :
    KeepsBits c k (bytes32 (type1Header32 reg ignored wc)) next bytes32 i := by
  cases h with
  | generic h => exact ⟨by simp [Instr.wf, Instr.form, hk, h], rfl, List.prefix_rfl, nofun⟩
  | write e he hid hrow =>
    have hbytes := hrow.bytes
    rw [ofNat_toNat_eq hid] at hbytes
    rw [← hid] at he
    exact ⟨by simp [Instr.wf, hrow.form, rowInTable, he], by rw [Instr.place, hrow.form],
      hbytes ▸ List.prefix_rfl, fun rk e' h' => nomatch hrow.form.symm.trans h'⟩
  | command code cmd hnext he hid hwc hcmd hrow =>
    have hreg : reg = 4 := BitVec.eq_of_toNat_eq (by rw [← hid, cmdId_of_wide hk]; rfl)
    have hone : wc = 1 := BitVec.eq_of_toNat_eq (by rw [hwc]; rfl)
    have hbytes : encode i = bytes32 (type1Header32 reg ignored wc) ++ bytes32 code := by
      rw [hrow.bytes, hreg, hone]; rfl
    rw [← hid] at he
    exact ⟨by simp [Instr.wf, hrow.form, rowInTable, he, hcmd], by rw [Instr.place, hrow.form],
      hbytes ▸ List.prefix_append _ _, fun _ _ _ => ⟨code, hnext, hbytes⟩⟩

theorem Type1Choice16.keepsBits {c : Config} {k : DeviceKind} (hk : k.wordBytes = 2) {reg : BitVec 6} {wc : BitVec 5}
    {next : Option Word} {i : Instr} (h : Type1Choice16 c k reg wc next i) :
    KeepsBits c k (bytes16 (type1Header16 reg wc)) next (fun code => bytes16 (code.setWidth 16)) i := by
  cases h with
  | generic h => exact ⟨by simp [Instr.wf, Instr.form, hk, h], rfl, List.prefix_rfl, nofun⟩
  | write e he hid hrow =>
    have hbytes := hrow.bytes
    rw [ofNat_toNat_eq hid] at hbytes
    rw [← hid] at he
    exact ⟨by simp [Instr.wf, hrow.form, rowInTable, he], by rw [Instr.place, hrow.form],
      hbytes ▸ List.prefix_rfl, fun rk e' h' => nomatch hrow.form.symm.trans h'⟩
  | command code cmd hnext he hid hwc hcmd hrow =>
    have hreg : reg = 5 := BitVec.eq_of_toNat_eq (by rw [← hid, cmdId_of_narrow hk]; rfl)
    have hone : wc = 1 := BitVec.eq_of_toNat_eq (by rw [hwc]; rfl)
    have hbytes : encode i = bytes16 (type1Header16 reg wc) ++ bytes16 (code.setWidth 16) := by
      rw [hrow.bytes, hreg, hone]; rfl
    rw [← hid] at he
    exact ⟨by simp [Instr.wf, hrow.form, rowInTable, he, hcmd], by rw [Instr.place, hrow.form],
      hbytes ▸ List.prefix_append _ _, fun _ _ _ => ⟨code, hnext, hbytes⟩⟩

theorem HeaderClass32.keepsBits {c : Config} {k : DeviceKind} (hk : k.wordBytes = 4) {next : Option Word}
    {hdr : BitVec 32} {i : Instr} (h : HeaderClass32 c k next hdr i) : KeepsBits c k (bytes32 hdr) next bytes32 i := by
  have wordRow : ∀ j : Instr, j.form = .word32 → bytes32 hdr <+: encode j → KeepsBits c k (bytes32 hdr) next bytes32 j :=
    fun j hform hbytes => ⟨by simp [Instr.wf, hform, hk], by rw [Instr.place, hform], hbytes,
      fun rk e h' => nomatch hform.symm.trans h'⟩
  cases h with
  | dummy | sync | bugFdri | nop | type2 => exact wordRow _ rfl List.prefix_rfl
  | widthDetect => exact wordRow _ rfl (List.prefix_append _ _)
  | type1 reg ignored wc h => exact h.keepsBits hk

theorem HeaderClass16.keepsBits {c : Config} {k : DeviceKind} (hk : k.wordBytes = 2) {next : Option Word}
    {hdr : BitVec 16} {i : Instr} (h : HeaderClass16 c k next hdr i) :
    KeepsBits c k (bytes16 hdr) next (fun code => bytes16 (code.setWidth 16)) i := by
  cases h with
  | dummy | sync | nop | long => exact ⟨by simp [Instr.wf, Instr.form, hk], rfl, List.prefix_rfl, nofun⟩
  | type1 reg wc h => exact h.keepsBits hk

theorem take_of_startsWith {header bs : List Byte} {n : Nat} (hlen : header.length = n) (h : header <+: bs) :
    bs.take n = header := by
  rw [← hlen]
  exact (List.prefix_iff_eq_take.mp h).symm

theorem wordBytes_cases (k : DeviceKind) : k.wordBytes = 4 ∨ k.wordBytes = 2 := by
  cases k with
  | virtexOriginal | virtexII | virtexIVPlus => exact .inl rfl
  | spartan3A | spartan6 => exact .inr rfl

/-- Decoding at a header of a 32-bit kind is decoding its first word, with the next as a look-ahead. -/
theorem decode_wide_ok {c : Config} {k : DeviceKind} (hk : k.wordBytes = 4) {bs : List Byte} {i : Instr}
    (h : decode c k .header bs = .ok i) :
    ∃ hdr, word32 bs = some hdr ∧ HeaderClass32 c k (word32 (bs.drop 4)) hdr i := by
  simp only [decode, hk, if_true] at h
  split at h
  · exact ⟨_, ‹_›, decode32_class hk h⟩
  · cases h

theorem decode_narrow_ok {c : Config} {k : DeviceKind} (hk : k.wordBytes = 2) {bs : List Byte} {i : Instr}
    (h : decode c k .header bs = .ok i) :
    ∃ hdr, word16 bs = some hdr ∧
      HeaderClass16 c k ((word16 (bs.drop 2)).map fun v => v.setWidth 32) hdr i := by
  simp only [decode, hk] at h
  split at h
  case isTrue hc => exact absurd hc (by decide)
  split at h
  · exact ⟨_, ‹_›, decode16_class hk h⟩
  · cases h

theorem decode_afterFdri_ok {c : Config} {k : DeviceKind} {bs : List Byte} {i : Instr}
    (h : decode c k .afterFdri bs = .ok i) : ∃ v, word32 bs = some v ∧ i = .autoCrc v := by
  simp only [decode] at h
  split at h
  · exact ⟨_, ‹_›, (Except.ok.inj h).symm⟩
  · cases h

/-- Bytes whose first word and code word are those of an encoding begin with it. -/
theorem append_startsWith {bs header code : List Byte} {n m : Nat} (hheader : bs.take n = header)
    (hcode : (bs.drop n).take m = code) : header ++ code <+: bs := by
  rw [← hheader, ← hcode, ← List.take_add]
  exact List.take_prefix _ _

/-- Settles O3: the class of the header word fixes its bits, and the choice of a `CMD_` row those of the word after it. -/
theorem decodedInstructionKeepsItsBits : Obligations.DecodedInstructionKeepsItsBits := by
  intro c k p bs i h
  cases p with
  | afterFdri =>
    obtain ⟨v, hv, rfl⟩ := decode_afterFdri_ok h
    obtain ⟨hlen, htake⟩ := take_of_word32 hv
    exact ⟨rfl, rfl, ⟨hlen, htake.symm⟩, nofun⟩
  | header =>
    rcases wordBytes_cases k with hk | hk
    · obtain ⟨hdr, hw, hclass⟩ := decode_wide_ok hk h
      obtain ⟨hlen, htake⟩ := take_of_word32 hw
      obtain ⟨hwf, hplace, hheader, hcommand⟩ := hclass.keepsBits hk
      refine ⟨hwf, hplace, ?_, fun rk e hform => ?_⟩
      · simp only [reduceCtorEq, if_false, hk]
        exact ⟨hlen, (take_of_startsWith rfl hheader).trans htake.symm⟩
      · obtain ⟨code, hcode, hbytes⟩ := hcommand rk e hform
        rw [hbytes]
        exact append_startsWith htake (take_of_word32 hcode).2
    · obtain ⟨hdr, hw, hclass⟩ := decode_narrow_ok hk h
      obtain ⟨hlen, htake⟩ := take_of_word16 hw
      obtain ⟨hwf, hplace, hheader, hcommand⟩ := hclass.keepsBits hk
      refine ⟨hwf, hplace, ?_, fun rk e hform => ?_⟩
      · simp only [reduceCtorEq, if_false, hk]
        exact ⟨hlen, (take_of_startsWith rfl hheader).trans htake.symm⟩
      · obtain ⟨code, hcode, hbytes⟩ := hcommand rk e hform
        obtain ⟨v, hv, rfl⟩ := Option.map_eq_some_iff.mp hcode
        rw [hbytes, BitVec.setWidth_setWidth_of_le _ (by decide), BitVec.setWidth_eq]
        exact append_startsWith htake (take_of_word16 hv).2

/-! ### An encoding decodes to its instruction -/

/-- A `WRITE_` row of a 32-bit kind is the row the decoder has for its entry, whose header its bytes are. -/
theorem writeForm_wide {k : DeviceKind} (hk : k.wordBytes = 4) {e : RegEntry} {i : Instr} (h : i.form = .write k e) :
    ∃ ignored wc, encode i = bytes32 (type1Header32 (BitVec.ofNat 14 e.id) ignored wc) ∧
      writeRow32 k e.tag ignored wc = some i ∧ findReg (defaultRegTables.get k) e.id = some e := by
  cases k with
  | spartan3A | spartan6 => cases hk
  | virtexOriginal | virtexII | virtexIVPlus => cases i <;> cases h <;> exact ⟨_, _, rfl, rfl, rfl⟩

theorem writeForm_narrow {k : DeviceKind} (hk : k.wordBytes = 2) {e : RegEntry} {i : Instr} (h : i.form = .write k e) :
    ∃ wc, encode i = bytes16 (type1Header16 (BitVec.ofNat 6 e.id) wc) ∧
      writeRow16 k e.tag wc = some i ∧ findReg (defaultRegTables.get k) e.id = some e := by
  cases k with
  | virtexOriginal | virtexII | virtexIVPlus => cases hk
  | spartan3A | spartan6 => cases i <;> cases h <;> exact ⟨_, rfl, rfl, rfl⟩

theorem commandForm_wide {k : DeviceKind} (hk : k.wordBytes = 4) {e : CmdEntry} {i : Instr} (h : i.form = .command k e) :
    ∃ ignored, encode i = cmdBytes32 ignored e.code ∧ cmdRow32 k e.command ignored = some i ∧
      findCmd (defaultCmdTables.get k) e.code = some e.command := by
  cases k with
  | spartan3A | spartan6 => cases hk
  | virtexOriginal | virtexII | virtexIVPlus => cases i <;> cases h <;> exact ⟨_, rfl, rfl, rfl⟩

theorem commandForm_narrow {k : DeviceKind} (hk : k.wordBytes = 2) {e : CmdEntry} {i : Instr}
    (h : i.form = .command k e) :
    encode i = cmdBytes16 (e.code.setWidth 16) ∧ cmdRow16 k e.command = some i ∧
      findCmd (defaultCmdTables.get k) e.code = some e.command := by
  cases k with
  | virtexOriginal | virtexII | virtexIVPlus => cases hk
  | spartan3A | spartan6 => cases i <;> cases h <;> exact ⟨rfl, rfl, rfl⟩

/-- The ids of the default register tables fit the register field of either width (R36 to R40). -/
theorem default_id_lt {k : DeviceKind} {e : RegEntry} (he : e ∈ defaultRegTables.get k) : e.id < 2 ^ 6 := by
  have small : ∀ e ∈ defaultRegTables.get k, e.id < 2 ^ 6 := by cases k <;> decide
  exact small e he

/-- The codes of the default command tables fit 16 bits (R146). -/
theorem default_code_lt {k : DeviceKind} {e : CmdEntry} (he : e ∈ defaultCmdTables.get k) : e.code.toNat < 2 ^ 16 := by
  have small : ∀ e ∈ defaultCmdTables.get k, e.code.toNat < 2 ^ 16 := by cases k <;> decide
  exact small e he

theorem default_cmdEntry (k : DeviceKind) :
    findReg (defaultRegTables.get k) k.cmdId = some ⟨k.cmdId, .cmd, .one⟩ := by
  cases k <;> rfl

/-- A register entry other than the command register's, or the end of the bytes, leaves the `WRITE_` row. -/
theorem rowCommand_eq_none {c : Config} {k : DeviceKind} {e : RegEntry} {wc : Nat} {next : Option Word}
    (h : next = none ∨ e.tag ≠ .cmd) : rowCommand c k e wc next = none := by
  rw [Option.eq_none_iff_forall_ne_some]
  intro cmd hcmd
  obtain ⟨code, hnext, rfl, -⟩ := rowCommand_eq_some.mp hcmd
  rcases h with h | h
  · rw [h] at hnext
    cases hnext
  · exact h rfl

theorem type1Row32_generic {c : Config} {k : DeviceKind} {reg : BitVec 14} (h : hasRow c k reg.toNat = false)
    (ignored : BitVec 2) (wc : BitVec 11) (next : Option Word) :
    type1Row32 c k reg ignored wc next = .t1write32 reg ignored wc := by
  unfold type1Row32
  split
  · rfl
  · rename_i e he
    split
    · rename_i hd
      simp [hasRow, he, hd] at h
    · rfl

theorem type1Row16_generic {c : Config} {k : DeviceKind} {reg : BitVec 6} (h : hasRow c k reg.toNat = false)
    (wc : BitVec 5) (next : Option Word) : type1Row16 c k reg wc next = .t1write16 reg wc := by
  unfold type1Row16
  split
  · rfl
  · rename_i e he
    split
    · rename_i hd
      simp [hasRow, he, hd] at h
    · rfl

/-- Bytes may be followed by others but those of a `WRITE_Cmd` header, which the next word may turn into a `CMD_` row. -/
def MayFollow (i : Instr) (rest : List Byte) : Prop := rest = [] ∨ ∀ rk e, i.form = .write rk e → e.tag ≠ .cmd

theorem decode_writeRow {c : Config} {k : DeviceKind} {e : RegEntry} {i : Instr} (hform : i.form = .write k e)
    (he : c.lookupReg k e.id = some e) {rest : List Byte} (hrest : MayFollow i rest) :
    decode c k .header (encode i ++ rest) = .ok i := by
  have hnext : rest = [] ∨ e.tag ≠ .cmd := hrest.imp_right fun h => h k e hform
  rcases wordBytes_cases k with hk | hk
  · obtain ⟨ignored, wc, hbytes, hrow, hd⟩ := writeForm_wide hk hform
    have hid : (BitVec.ofNat 14 e.id).toNat = e.id :=
      Nat.mod_eq_of_lt (lt_trans (default_id_lt (findReg_eq_some hd).1) (by norm_num))
    have hcmd : rowCommand c k e wc.toNat (word32 rest) = none :=
      rowCommand_eq_none (hnext.imp_left fun h => by rw [h]; rfl)
    rw [hbytes, decode_bytes32 c hk, decode32_type1]
    simp [type1Row32, hid, he, hd, hcmd, hrow]
  · obtain ⟨wc, hbytes, hrow, hd⟩ := writeForm_narrow hk hform
    have hid : (BitVec.ofNat 6 e.id).toNat = e.id := Nat.mod_eq_of_lt (default_id_lt (findReg_eq_some hd).1)
    have hcmd : rowCommand c k e wc.toNat ((word16 rest).map fun v => v.setWidth 32) = none :=
      rowCommand_eq_none (hnext.imp_left fun h => by rw [h]; rfl)
    rw [hbytes, decode_bytes16 c hk, decode16_type1]
    simp [type1Row16, hid, he, hd, hcmd, hrow]

theorem decode_cmdRow {c : Config} {k : DeviceKind} {e : CmdEntry} {i : Instr} (hform : i.form = .command k e)
    (he : c.lookupReg k k.cmdId = some ⟨k.cmdId, .cmd, .one⟩) (hcode : c.lookupCmd k e.code = some e.command)
    (rest : List Byte) : decode c k .header (encode i ++ rest) = .ok i := by
  have hd := default_cmdEntry k
  have command : ∀ wc, wc = 1 → rowCommand c k ⟨k.cmdId, .cmd, .one⟩ wc (some e.code) =
      if findCmd (defaultCmdTables.get k) e.code = some e.command then some e.command else none := by
    rintro wc rfl
    simp [rowCommand, hcode, eq_comm]
  rcases wordBytes_cases k with hk | hk
  · obtain ⟨ignored, hbytes, hrow, hdef⟩ := commandForm_wide hk hform
    rw [cmdId_of_wide hk] at he hd command
    rw [hbytes, cmdBytes32, List.append_assoc, decode_bytes32 c hk, decode32_type1, word32_bytes32]
    simp [type1Row32, he, hd, command, hdef, hrow]
  · obtain ⟨hbytes, hrow, hdef⟩ := commandForm_narrow hk hform
    have hwide : (e.code.setWidth 16).setWidth 32 = e.code := by
      apply BitVec.eq_of_toNat_eq
      have hlt := default_code_lt (findCmd_eq_some hdef)
      simp only [BitVec.toNat_setWidth] at hlt ⊢
      omega
    rw [cmdId_of_narrow hk] at he hd command
    rw [hbytes, cmdBytes16, List.append_assoc, decode_bytes16 c hk, decode16_type1, word16_bytes16, Option.map_some, hwide]
    simp [type1Row16, he, hd, command, hdef, hrow]

theorem decode_word32Row {c : Config} {k : DeviceKind} (hk : k.wordBytes = 4) {i : Instr} (hform : i.form = .word32)
    (rest : List Byte) : decode c k .header (encode i ++ rest) = .ok i := by
  cases i <;> cases hform
  case widthDetect => rw [encode, List.append_assoc, decode_bytes32 c hk]; rfl
  case t2write wc => rw [encode, decode_bytes32 c hk, decode32_type2]
  all_goals rw [encode, decode_bytes32 c hk]; rfl

theorem decode_word16Row {c : Config} {k : DeviceKind} (hk : k.wordBytes = 2) {i : Instr} (hform : i.form = .word16)
    (rest : List Byte) : decode c k .header (encode i ++ rest) = .ok i := by
  cases i <;> cases hform
  case lwrite low => rw [encode, decode_bytes16 c hk, decode16_long]
  all_goals rw [encode, decode_bytes16 c hk]; rfl

theorem decode_type1WideRow {c : Config} {k : DeviceKind} (hk : k.wordBytes = 4) {id : RegId} (hrow : hasRow c k id = false)
    {i : Instr} (hform : i.form = .type1Wide id) (rest : List Byte) :
    decode c k .header (encode i ++ rest) = .ok i := by
  cases i <;> cases hform
  rw [encode, decode_bytes32 c hk, decode32_type1, type1Row32_generic hrow]

theorem decode_type1NarrowRow {c : Config} {k : DeviceKind} (hk : k.wordBytes = 2) {id : RegId}
    (hrow : hasRow c k id = false) {i : Instr} (hform : i.form = .type1Narrow id) (rest : List Byte) :
    decode c k .header (encode i ++ rest) = .ok i := by
  cases i <;> cases hform
  rw [encode, decode_bytes16 c hk, decode16_type1, type1Row16_generic hrow]

theorem decode_afterFdriRow {c : Config} {k : DeviceKind} {i : Instr} (hform : i.form = .afterFdri) (rest : List Byte) :
    decode c k .afterFdri (encode i ++ rest) = .ok i := by
  cases i <;> cases hform
  simp only [decode, encode, word32_bytes32]

/-- Decoding inverts encoding, form by form. -/
theorem decode_encode {c : Config} {k : DeviceKind} {i : Instr} (hwf : i.wf c k = true) {rest : List Byte}
    (hrest : MayFollow i rest) : decode c k i.place (encode i ++ rest) = .ok i := by
  unfold Instr.wf at hwf
  unfold Instr.place
  cases hform : i.form <;> simp only [hform, Bool.and_eq_true, beq_iff_eq, Bool.not_eq_true'] at hwf ⊢
  case word32 => exact decode_word32Row hwf hform rest
  case word16 => exact decode_word16Row hwf hform rest
  case type1Wide id => exact decode_type1WideRow hwf.1 hwf.2 hform rest
  case type1Narrow id => exact decode_type1NarrowRow hwf.1 hwf.2 hform rest
  case afterFdri => exact decode_afterFdriRow hform rest
  case write rk e =>
    obtain ⟨rfl, hrow⟩ := hwf
    exact decode_writeRow hform (by simpa [rowInTable] using hrow) hrest
  case command rk e =>
    obtain ⟨⟨rfl, hrow⟩, hcode⟩ := hwf
    exact decode_cmdRow hform (by simpa [rowInTable] using hrow) hcode rest

/-- Settles O2: `decode_encode` with nothing after the bytes, and with any bytes after a header no word can turn into another row. -/
theorem encodedInstructionDecodesToItself : Obligations.EncodedInstructionDecodesToItself := by
  refine fun c k i hwf => ⟨?_, fun hno rest => decode_encode hwf (.inr hno)⟩
  have alone := decode_encode hwf (rest := []) (.inl rfl)
  rwa [List.append_nil] at alone

/-! ### A header word of no class of Synced mode -/

theorem exec_bugFdri (s : State) : exec .bugFdri s = settle s (bugFdriWrite s) := rfl

/-- Outside `BUGFDRI_KINDS` the zero word is `UnexpectedWord` in either mode (R174, R63). -/
theorem bugFdriWrite_off {s : State} (h : s.bugFdri = false) :
    bugFdriWrite s = .error (.raise .unexpectedWord s.position) := by
  simp [bugFdriWrite, inMode, h]

/-- Settles O16: the classes of a header word that Synced mode accepts are excluded, the framing words fail the mode test, the
zero word its flag. -/
theorem otherWordOnceSyncedIsUnexpected : Obligations.OtherWordOnceSyncedIsUnexpected := by
  intro s hrun hs hlen
  have wrong : ∀ i : Instr, i.place = .header → i.synced = false →
      exec i s = .next (s.fail .unexpectedWord s.position) :=
    fun i hplace hi => exec_of_wrong_mode hplace (by simp [hs, hi])
  refine ⟨fun hk hzero hnop htype1 htype2 => ?wide, fun hk hnop htype1 hlong => ?narrow⟩
  case wide =>
    refine step_unexpected hrun hlen fun i hi => ?_
    rw [hk] at hlen hzero hnop htype1 htype2
    rw [decode_header_wide hk hlen] at hi
    have hclass := decode32_class hk hi
    generalize s.buf.read s.position 4 = hdr at hzero hnop htype1 htype2 hclass
    cases hclass with
    | dummy | widthDetect | sync => exact wrong _ rfl rfl
    | bugFdri =>
      have hoff : s.bugFdri = false := by simpa using hzero
      rw [exec_bugFdri, bugFdriWrite_off hoff, settle_raise]
    | nop => exact absurd rfl hnop
    | type1 reg ignored wc => exact absurd ((top32_eq_iff _ _).mp (type1Header32_fields reg ignored wc).1) htype1
    | type2 wc => exact absurd ((top32_eq_iff _ _).mp (longHeader32_fields wc).1) htype2
  case narrow =>
    refine step_unexpected hrun hlen fun i hi => ?_
    rw [hk] at hlen hnop htype1 hlong
    rw [decode_header_narrow hk hlen] at hi
    have hclass := decode16_class hk hi
    have hread := Memory.read_two_eq (m := s.buf) (a := s.position) rfl
    generalize (s.buf.read s.position 2).setWidth 16 = hdr at hclass hread
    have top : ∀ op : BitVec 5, hdr.extractLsb' 11 5 = op → s.buf.read s.position 2 >>> 11 = op.setWidth 32 := by
      intro op hop
      rw [hread, ← hop]
      apply BitVec.eq_of_toNat_eq
      have hlt := hdr.isLt
      simp only [BitVec.toNat_ushiftRight, BitVec.toNat_setWidth, field_toNat, Nat.shiftRight_eq_div_pow]
      omega
    cases hclass with
    | dummy | sync => exact wrong _ rfl rfl
    | nop => exact absurd hread hnop
    | type1 reg wc => exact absurd (top _ (type1Header16_fields reg wc).1) htype1
    | long low => exact absurd (top _ (longHeader16_fields low).1) hlong

end Sys2Proof.Machine

/-!
The Checksum Engine (spec/40_checksum.md R76 to R80): the update is linear over exclusive-or, loses nothing, and stays below its
bound.
-/

namespace Sys2Proof.Machine

/-- Settles O8: the examples, evaluated. -/
theorem feedGivesTheSpecsExamples : Obligations.FeedGivesTheSpecsExamples := by
  refine ⟨?_, ?_, ?_, ?_, ?_, ?_⟩ <;> decide +kernel

/-! ### The bound -/

/-- The Rotate update clears bit 22 (R80): where the shift sets it, the constant clears it, and the word and id lie below it. -/
theorem feedRotate_bit (acc : BitVec 23) (data : BitVec 16) (reg : RegId) : (feedRotate acc data reg).getLsbD 22 = false := by
  simp only [feedRotate]
  split <;> simp_all [rotateConstant]

theorem toNat_lt_of_bit {v : BitVec 23} (h : v.getLsbD 22 = false) : v.toNat < 2 ^ 22 := by
  have hlt := v.isLt
  rw [BitVec.getLsbD, Nat.testBit_eq_decide_div_mod_eq] at h
  simp only [decide_eq_false_iff_not] at h
  omega

theorem feedRotate_lt (acc : BitVec 23) (data : BitVec 16) (reg : RegId) : (feedRotate acc data reg).toNat < 2 ^ 22 :=
  toNat_lt_of_bit (feedRotate_bit acc data reg)

/-- One update is below the bound from any accumulator: it is narrowed to the kind's width (log entry 26). -/
theorem feed_lt_bound (k : DeviceKind) (acc : BitVec 32) (data : Word) (reg : RegId) :
    (feed k acc data reg).toNat < checksumBound k := by
  cases k with
  | virtexOriginal | virtexII =>
    simp only [feed, checksumBound, BitVec.toNat_setWidth]
    omega
  | virtexIVPlus => exact (feed .virtexIVPlus acc data reg).isLt
  | spartan3A | spartan6 =>
    have hlt := feedRotate_lt (acc.setWidth 23) (data.setWidth 16) reg
    simp only [feed, checksumBound, BitVec.toNat_setWidth]
    omega

/-- Settles O9: the update is below the bound whatever the accumulator was. -/
theorem feedStaysBelowTheBound : Obligations.FeedStaysBelowTheBound :=
  fun k acc data reg _ => feed_lt_bound k acc data reg

/-! ### Linearity -/

/-- The accumulator shifted right, with the polynomial where a 1 is shifted out. -/
def lfsrShift {w : Nat} (poly acc : BitVec w) : BitVec w :=
  acc >>> 1 ^^^ (if acc.getLsbD 0 then poly else 0)

theorem lfsrBit_eq {w : Nat} (poly acc : BitVec w) (b : Bool) :
    lfsrBit poly acc b = lfsrShift poly (acc ^^^ (BitVec.ofBool b).setWidth w) := by
  simp only [lfsrBit, lfsrShift]
  split <;> simp

theorem lfsrShift_xor {w : Nat} (poly a b : BitVec w) :
    lfsrShift poly (a ^^^ b) = lfsrShift poly a ^^^ lfsrShift poly b := by
  apply BitVec.eq_of_getLsbD_eq
  intro i _
  cases ha : a.getLsbD 0 <;> cases hb : b.getLsbD 0 <;> simp [lfsrShift, ha, hb] <;> grind

theorem ofBool_xor (a b : Bool) : BitVec.ofBool (a ^^ b) = BitVec.ofBool a ^^^ BitVec.ofBool b := by
  cases a <;> cases b <;> rfl

theorem lfsrBit_xor {w : Nat} (poly a a' : BitVec w) (b b' : Bool) :
    lfsrBit poly (a ^^^ a') (b ^^ b') = lfsrBit poly a b ^^^ lfsrBit poly a' b' := by
  rw [lfsrBit_eq, lfsrBit_eq, lfsrBit_eq, ofBool_xor, BitVec.setWidth_xor, ← lfsrShift_xor]
  congr 1
  ac_rfl

theorem lfsrBits_xor {w : Nat} (poly a a' : BitVec w) (v v' n : Nat) :
    lfsrBits poly (a ^^^ a') (v ^^^ v') n = lfsrBits poly a v n ^^^ lfsrBits poly a' v' n := by
  induction n with
  | zero => rfl
  | succ n ih => rw [lfsrBits_succ, lfsrBits_succ, lfsrBits_succ, ih, Nat.testBit_xor, lfsrBit_xor]

theorem feedLfsr_xor {w : Nat} (poly : BitVec w) (rfw : Nat) (a a' : BitVec w) (data data' : Word) (reg reg' : RegId) :
    feedLfsr poly rfw (a ^^^ a') (data ^^^ data') (reg ^^^ reg') =
      feedLfsr poly rfw a data reg ^^^ feedLfsr poly rfw a' data' reg' := by
  simp only [feedLfsr, BitVec.toNat_xor, lfsrBits_xor]

/-- The Rotate update without the word: the shift, with the constant where bit 22 is set by it. -/
def rotateShift (acc : BitVec 23) : BitVec 23 :=
  acc <<< 1 ^^^ (if acc.getLsbD 21 then rotateConstant else 0)

/-- The word and the register id above it. -/
def rotateWord (data : BitVec 16) (reg : RegId) : BitVec 23 :=
  data.setWidth 23 ||| ((BitVec.ofNat 6 reg).setWidth 23 <<< 16)

theorem feedRotate_eq (acc : BitVec 23) (data : BitVec 16) (reg : RegId) :
    feedRotate acc data reg = rotateShift acc ^^^ rotateWord data reg := by
  have hbit : (acc <<< 1).getLsbD 22 = acc.getLsbD 21 := by simp
  simp only [feedRotate, rotateShift, rotateWord, hbit]
  split <;> simp

theorem rotateShift_xor (a b : BitVec 23) : rotateShift (a ^^^ b) = rotateShift a ^^^ rotateShift b := by
  apply BitVec.eq_of_getLsbD_eq
  intro i hi
  cases ha : a.getLsbD 21 <;> cases hb : b.getLsbD 21 <;> simp [rotateShift, ha, hb] <;> grind

theorem rotateWord_xor (data data' : BitVec 16) (reg reg' : RegId) :
    rotateWord (data ^^^ data') (reg ^^^ reg') = rotateWord data reg ^^^ rotateWord data' reg' := by
  apply BitVec.eq_of_getLsbD_eq
  intro i hi
  by_cases h16 : i < 16 <;> simp [rotateWord, h16, hi]
  grind

theorem feedRotate_xor (a a' : BitVec 23) (data data' : BitVec 16) (reg reg' : RegId) :
    feedRotate (a ^^^ a') (data ^^^ data') (reg ^^^ reg') = feedRotate a data reg ^^^ feedRotate a' data' reg' := by
  rw [feedRotate_eq, feedRotate_eq, feedRotate_eq, rotateShift_xor, rotateWord_xor]
  ac_rfl

/-- Every variant is linear over exclusive-or. -/
theorem feed_xor (k : DeviceKind) (acc acc' : BitVec 32) (data data' : Word) (reg reg' : RegId) :
    feed k (acc ^^^ acc') (data ^^^ data') (reg ^^^ reg') = feed k acc data reg ^^^ feed k acc' data' reg' := by
  cases k with
  | virtexOriginal | virtexII => simp only [feed, BitVec.setWidth_xor, feedLfsr_xor]
  | virtexIVPlus => simp only [feed, feedLfsr_xor]
  | spartan3A | spartan6 => simp only [feed, BitVec.setWidth_xor, feedRotate_xor]

/-- Settles O10: each bit of the LFSR and the rotation are linear, so the update is. -/
theorem feedIsLinear : Obligations.FeedIsLinear := feed_xor

/-! ### No update merges two accumulators -/

/-- An LFSR whose polynomial has its top bit set loses nothing: a 1 shifted out comes back at the top. -/
theorem eq_zero_of_lfsrShift {w : Nat} {poly acc : BitVec w} (hpoly : poly.msb = true) (h : lfsrShift poly acc = 0) :
    acc = 0 := by
  cases hbit : acc.getLsbD 0 with
  | true =>
    have heq : acc >>> 1 = poly := by
      rw [lfsrShift, if_pos hbit] at h
      exact BitVec.xor_eq_zero_iff.mp h
    have hmsb : (acc >>> 1).msb = false := by simp [BitVec.msb_ushiftRight]
    rw [heq, hpoly] at hmsb
    cases hmsb
  | false =>
    have heq : acc >>> 1 = 0 := by simpa [lfsrShift, hbit] using h
    apply BitVec.eq_of_getLsbD_eq
    intro i _
    cases i with
    | zero => simpa using hbit
    | succ j =>
      have hj := congrArg (fun v => v.getLsbD j) heq
      simpa [BitVec.getLsbD_ushiftRight, Nat.add_comm] using hj

theorem eq_zero_of_lfsrBits {w : Nat} {poly acc : BitVec w} (hpoly : poly.msb = true) {n : Nat}
    (h : lfsrBits poly acc 0 n = 0) : acc = 0 := by
  induction n with
  | zero => exact h
  | succ n ih =>
    rw [lfsrBits_succ, Nat.zero_testBit, lfsrBit_eq] at h
    exact ih (by simpa using eq_zero_of_lfsrShift hpoly h)

theorem eq_zero_of_feedLfsr {w : Nat} {poly acc : BitVec w} (hpoly : poly.msb = true) {rfw : Nat}
    (h : feedLfsr poly rfw acc 0 0 = 0) : acc = 0 :=
  eq_zero_of_lfsrBits hpoly (eq_zero_of_lfsrBits hpoly h)

/-- The rotation loses nothing of 22 bits: the shift is even, and the constant is not. -/
theorem eq_zero_of_feedRotate {acc : BitVec 23} (hacc : acc.toNat < 2 ^ 22) (h : feedRotate acc 0 0 = 0) : acc = 0 := by
  have hword : rotateWord 0 0 = 0#23 := by decide
  rw [feedRotate_eq, hword, BitVec.xor_zero, rotateShift] at h
  have hshift : (acc <<< 1).toNat = 2 * acc.toNat := by
    rw [BitVec.toNat_shiftLeft, Nat.shiftLeft_eq]
    omega
  cases hbit : acc.getLsbD 21 with
  | true =>
    rw [if_pos hbit] at h
    have heq : acc <<< 1 = rotateConstant := BitVec.xor_eq_zero_iff.mp h
    have hodd : rotateConstant.toNat = 0x409081 := rfl
    rw [heq] at hshift
    omega
  | false =>
    have heq : acc <<< 1 = 0 := by
      rw [hbit] at h
      simpa using h
    rw [heq] at hshift
    apply BitVec.eq_of_toNat_eq
    simp only [BitVec.ofNat_eq_ofNat, BitVec.toNat_ofNat] at hshift ⊢
    omega

theorem eq_zero_of_setWidth {w : Nat} {v : BitVec 32} (hlt : v.toNat < 2 ^ w) (h : v.setWidth w = 0) : v = 0 := by
  have hv := congrArg BitVec.toNat h
  rw [BitVec.toNat_setWidth, Nat.mod_eq_of_lt hlt] at hv
  exact BitVec.eq_of_toNat_eq (by simpa using hv)

/-- Widening a word loses nothing of it. -/
theorem eq_zero_of_widened {w : Nat} (hw : w ≤ 32) {v : BitVec w} (h : v.setWidth 32 = 0) : v = 0 := by
  have hv := congrArg BitVec.toNat h
  have hlt : v.toNat < 2 ^ 32 := lt_of_lt_of_le v.isLt (Nat.pow_le_pow_right (by norm_num) hw)
  rw [BitVec.toNat_setWidth, Nat.mod_eq_of_lt hlt] at hv
  exact BitVec.eq_of_toNat_eq (by simpa using hv)

theorem eq_zero_of_feed {k : DeviceKind} {acc : BitVec 32} (hacc : acc.toNat < checksumBound k)
    (h : feed k acc 0 0 = 0) : acc = 0 := by
  cases k with
  | virtexOriginal | virtexII =>
    exact eq_zero_of_setWidth hacc (eq_zero_of_feedLfsr (by decide) (eq_zero_of_widened (by norm_num) h))
  | virtexIVPlus => exact eq_zero_of_feedLfsr (by decide) h
  | spartan3A | spartan6 =>
    have hlt : acc.toNat < 2 ^ 22 := hacc
    have hnarrow : (acc.setWidth 23).toNat < 2 ^ 22 := by
      rw [BitVec.toNat_setWidth]
      omega
    exact eq_zero_of_setWidth (by omega) (eq_zero_of_feedRotate hnarrow (eq_zero_of_widened (by norm_num) h))

theorem checksumBound_pow (k : DeviceKind) : ∃ n, checksumBound k = 2 ^ n := by
  cases k <;> exact ⟨_, rfl⟩

/-- Accumulators that one update makes equal were equal: their difference is fed to 0 (linearity). -/
theorem feed_injective {k : DeviceKind} {a b : BitVec 32} (ha : a.toNat < checksumBound k) (hb : b.toNat < checksumBound k)
    {w : Word} {reg : RegId} (h : feed k a w reg = feed k b w reg) : a = b := by
  have hdiff : feed k (a ^^^ b) 0 0 = 0 := by
    have hxor := feed_xor k a b w w reg reg
    rwa [h, BitVec.xor_self, BitVec.xor_self, Nat.xor_self] at hxor
  have hlt : (a ^^^ b).toNat < checksumBound k := by
    obtain ⟨n, hn⟩ := checksumBound_pow k
    rw [hn] at ha hb ⊢
    rw [BitVec.toNat_xor]
    exact Nat.xor_lt_two_pow ha hb
  exact BitVec.xor_eq_zero_iff.mp (eq_zero_of_feed hlt hdiff)

/-- Settles O11: by induction on the words, each update keeping the accumulators apart and below the bound. -/
theorem feedingKeepsAccumulatorsApart : Obligations.FeedingKeepsAccumulatorsApart := by
  intro k words reg
  induction words with
  | nil => exact fun a b _ _ h => h
  | cons w rest ih =>
    intro a b ha hb h
    exact feed_injective ha hb (ih _ _ (feed_lt_bound k a w reg) (feed_lt_bound k b w reg) h)

end Sys2Proof.Machine

/-!
What a step does (spec/45_sequence.md R178): the twelve plain instructions it comes to, what it can commit, and the statements
about one step and about every instruction that follow.
-/

namespace Sys2Proof.Machine

/-! ### The plain instruction of a header -/

/-- The instructions that headers of words of `wb` bytes come to once no row is told from the generic Type-1 write (log entry 15). -/
inductive Plain : Nat → Instr → Prop where
  | dummy32 : Plain 4 .dummy32
  | widthDetect : Plain 4 .widthDetect
  | sync32 : Plain 4 .sync32
  | nop32 : Plain 4 .nop32
  | bugFdri : Plain 4 .bugFdri
  | t1write32 (reg : BitVec 14) (ignored : BitVec 2) (wc : BitVec 11) : Plain 4 (.t1write32 reg ignored wc)
  | t2write (wc : BitVec 27) : Plain 4 (.t2write wc)
  | dummy16 : Plain 2 .dummy16
  | sync16 : Plain 2 .sync16
  | nop16 : Plain 2 .nop16
  | t1write16 (reg : BitVec 6) (wc : BitVec 5) : Plain 2 (.t1write16 reg wc)
  | lwrite (low : BitVec 11) : Plain 2 (.lwrite low)

/-- The decoder's look-ahead is the peek of the word after the header (R48). -/
theorem word32_drop_fetchBytes (s : State) : word32 (s.fetchBytes.drop 4) = peekWord s.buf (s.position + 4) 4 := by
  rw [State.fetchBytes, Memory.slice_drop, word32, Memory.slice_length, peekWord, readWord, longestEncoding]
  by_cases h : s.position + 4 + 4 ≤ s.buf.len
  · have hmin : min 8 (s.buf.len - s.position) - 4 = 4 := by omega
    rw [if_pos h, hmin, Memory.slice_take]
    rfl
  · rw [if_neg h, if_neg (by omega)]
    rfl

theorem word16_drop_fetchBytes (s : State) :
    (word16 (s.fetchBytes.drop 2)).map (fun v => v.setWidth 32) = peekWord s.buf (s.position + 2) 2 := by
  rw [State.fetchBytes, Memory.slice_drop, word16, Memory.slice_length, peekWord, readWord, longestEncoding]
  by_cases h : s.position + 2 + 2 ≤ s.buf.len
  · have hmin : 2 ≤ min 8 (s.buf.len - s.position) - 2 := by omega
    have htake : min 2 (min 8 (s.buf.len - s.position) - 2) = 2 := by omega
    have hlt := beValue_lt (s.buf.slice (s.position + 2) 2)
    rw [Memory.slice_length] at hlt
    rw [if_pos h, if_pos hmin, Memory.slice_take, htake, Option.map_some, Option.map_some, Memory.read]
    refine congrArg some (BitVec.eq_of_toNat_eq ?_)
    rw [BitVec.toNat_setWidth, BitVec.toNat_ofNat, BitVec.toNat_ofNat]
    omega
  · rw [if_neg h, if_neg (by omega)]
    rfl

/-- The instruction that a header decodes to runs as a plain one, in every state of the session with the same bytes there. -/
theorem exec_decoded {s : State} {i : Instr} (h : decode s.cfg s.kind .header s.fetchBytes = .ok i) :
    ∃ g, Plain s.kind.wordBytes g ∧
      ∀ t : State, t.cfg = s.cfg → t.kind = s.kind → t.fetchBytes = s.fetchBytes → exec i t = exec g t := by
  rcases wordBytes_cases s.kind with hk | hk <;> rw [hk]
  · obtain ⟨hdr, -, hclass⟩ := decode_wide_ok hk h
    cases hclass with
    | dummy => exact ⟨_, .dummy32, fun _ _ _ _ => rfl⟩
    | widthDetect => exact ⟨_, .widthDetect, fun _ _ _ _ => rfl⟩
    | sync => exact ⟨_, .sync32, fun _ _ _ _ => rfl⟩
    | bugFdri => exact ⟨_, .bugFdri, fun _ _ _ _ => rfl⟩
    | nop => exact ⟨_, .nop32, fun _ _ _ _ => rfl⟩
    | type2 wc => exact ⟨_, .t2write wc, fun _ _ _ _ => rfl⟩
    | type1 reg ignored wc hchoice =>
      refine ⟨_, .t1write32 reg ignored wc, fun t hc hkind hbytes => exec_type1Choice32 ?_⟩
      rwa [← word32_drop_fetchBytes, hc, hkind, hbytes]
  · obtain ⟨hdr, -, hclass⟩ := decode_narrow_ok hk h
    cases hclass with
    | dummy => exact ⟨_, .dummy16, fun _ _ _ _ => rfl⟩
    | sync => exact ⟨_, .sync16, fun _ _ _ _ => rfl⟩
    | nop => exact ⟨_, .nop16, fun _ _ _ _ => rfl⟩
    | long low => exact ⟨_, .lwrite low, fun _ _ _ _ => rfl⟩
    | type1 reg wc hchoice =>
      refine ⟨_, .t1write16 reg wc, fun t hc hkind hbytes => exec_type1Choice16 ?_⟩
      rwa [← word16_drop_fetchBytes, hc, hkind, hbytes]

/-! ### What a step commits -/

/-- The working copies that a step can commit: those of `YieldsFrom`, in words of the session's size, with the table entry of the
register written and the bytes of the header within the buffer. -/
inductive StepYield (s : State) : Yield → Prop where
  | dummy (hs : s.synced = false) : StepYield s (framing s .dummyWord s.kind.wordBytes false)
  | widthDetect (hk : s.kind.wordBytes = 4) (hs : s.synced = false) (hl : s.position + 8 ≤ s.buf.len) :
      StepYield s (framing s .widthDetect 8 false)
  | sync (n : Nat) (hn : n = s.kind.wordBytes ∨ n = 2 * s.kind.wordBytes) (hl : s.position + n ≤ s.buf.len)
      (hs : s.synced = false) : StepYield s (framing s .syncWord n true)
  | nop (hs : s.synced = true) : StepYield s (framing s .nop s.kind.wordBytes true)
  | write (reg : RegId) (e : RegEntry) (n : Nat) (p : Packet) (hs : s.synced = true)
      (hl : s.position + s.kind.wordBytes + n * s.kind.wordBytes ≤ s.buf.len) (he : s.lookupReg reg = some e)
      (hc : cardAdmits e.card n = true)
      (hb : build s s.kind.wordBytes e n (writePayload s s.kind.wordBytes n) = .ok p) :
      StepYield s (finishWrite s s.kind.wordBytes e (writePayload s s.kind.wordBytes n) p)
  | long (header : Nat) (n : Nat) (e : RegEntry) (pkt : Packet) (hs : s.synced = true) (hh : 0 < header)
      (hl : s.position + header * s.kind.wordBytes + n * s.kind.wordBytes ≤ s.buf.len)
      (hb : longBuild s e n (longPayload s s.kind.wordBytes n (s.position + header * s.kind.wordBytes)) = .ok pkt) :
      StepYield s (longYield s e (longPayload s s.kind.wordBytes n (s.position + header * s.kind.wordBytes)) pkt)
  | longChecked (header : Nat) (n : Nat) (e : RegEntry) (pkt : Packet) (hs : s.synced = true) (hh : 0 < header)
      (hl : s.position + header * s.kind.wordBytes + n * s.kind.wordBytes + 4 ≤ s.buf.len)
      (hb : longBuild s e n (longPayload s s.kind.wordBytes n (s.position + header * s.kind.wordBytes)) = .ok pkt) :
      StepYield s
        (checked (longYield s e (longPayload s s.kind.wordBytes n (s.position + header * s.kind.wordBytes)) pkt)
          (s.buf.read (s.position + header * s.kind.wordBytes + n * s.kind.wordBytes) 4))
  | bugFdri (hk : s.kind.wordBytes = 4) (hl : s.position + 4 ≤ s.buf.len) (hs : s.synced = true) :
      StepYield s (bugYield s)

theorem StepYield.of_type1 {s : State} {wb n : Nat} {reg : RegId} (hk : s.kind.wordBytes = wb) {y : Yield}
    (h : type1Write s wb reg n = .ok y) : StepYield s y := by
  subst hk
  obtain ⟨hs, hl, e, p, he, hc, hb, rfl⟩ := type1Write_ok h
  exact .write reg e n p hs hl he hc hb

theorem StepYield.of_long {s : State} {wb n header : Nat} {reg : RegId} (hk : s.kind.wordBytes = wb)
    (hs : s.synced = true) (hh : 0 < header) {y : Yield} (h : longWrite s wb reg n (s.position + header * wb) = .ok y) :
    StepYield s y := by
  subst hk
  obtain ⟨hl, e, pkt, -, -, hb, ⟨-, rfl⟩ | ⟨-, -, hq, rfl⟩⟩ := longWrite_ok h
  · exact .long header n e pkt hs hh hl hb
  · exact .longChecked header n e pkt hs hh hq hb

/-- A plain instruction is a settled procedure whose yields are those above. -/
theorem plain_settles {s : State} {g : Instr} (hl : s.position + s.kind.wordBytes ≤ s.buf.len)
    (h : Plain s.kind.wordBytes g) : ∃ r, exec g s = settle s r ∧ ∀ y, r = .ok y → StepYield s y := by
  generalize hk : s.kind.wordBytes = wb at h hl
  cases h with
  | dummy32 | dummy16 =>
    refine ⟨_, rfl, fun y hy => ?_⟩
    obtain ⟨hs, hy⟩ := inMode_ok hy
    cases hy
    exact hk ▸ .dummy hs
  | nop32 | nop16 =>
    refine ⟨_, rfl, fun y hy => ?_⟩
    obtain ⟨hs, hy⟩ := inMode_ok hy
    cases hy
    exact hk ▸ .nop hs
  | sync32 =>
    refine ⟨_, rfl, fun y hy => ?_⟩
    obtain ⟨hs, hy⟩ := inMode_ok hy
    cases hy
    exact .sync 4 (.inl hk.symm) hl hs
  | sync16 =>
    refine ⟨_, rfl, fun y hy => ?_⟩
    obtain ⟨hs, ⟨-, hl4, -, rfl⟩ | ⟨-, rfl⟩⟩ := syncWord16_ok hy
    · exact .sync 4 (.inr (by omega)) hl4 hs
    · exact .sync 2 (.inl hk.symm) hl hs
  | widthDetect =>
    refine ⟨_, rfl, fun y hy => ?_⟩
    obtain ⟨hs, -, hl8, -, rfl⟩ := widthDetectPair_ok hy
    exact .widthDetect hk hs hl8
  | bugFdri =>
    refine ⟨_, rfl, fun y hy => ?_⟩
    obtain ⟨hs, -, rfl⟩ := bugFdriWrite_ok hy
    exact .bugFdri hk hl hs
  | t1write32 | t1write16 => exact ⟨_, rfl, fun _ => .of_type1 hk⟩
  | t2write wc =>
    refine ⟨_, rfl, fun y hy => ?_⟩
    obtain ⟨hs, reg, -, hy⟩ := type2Write_ok hy
    exact .of_long (header := 1) hk hs (by omega) hy
  | lwrite low =>
    refine ⟨_, rfl, fun y hy => ?_⟩
    obtain ⟨hs, reg, -, -, hy⟩ := longWrite16_ok hy
    exact .of_long (header := 3) hk hs (by omega) hy

/-- What a step can do: nothing once stopped; the end; an error; a commit of one of the working copies above. -/
theorem step_inversion {s t : State} (h : step s = .next t) :
    (s.status ≠ .running ∧ t = s) ∨
    (s.status = .running ∧ s.position = s.buf.len ∧ t = s.finish) ∨
    (s.status = .running ∧ ∃ k a, t = s.fail k a) ∨
    (s.status = .running ∧ s.position + s.kind.wordBytes ≤ s.buf.len ∧ ∃ y, StepYield s y ∧ t = s.commit y) := by
  have hpos := DeviceKind.wordBytes_pos s.kind
  rcases step_cases s with ⟨hr, hs⟩ | ⟨hr, hend, hs⟩ | ⟨hr, -, -, hs⟩ | ⟨hr, -, -, hs⟩ | ⟨hr, hlen, i, hi, hs⟩ <;>
    rw [hs] at h
  · exact .inl ⟨hr, (Host.Outcome.next.inj h).symm⟩
  · exact .inr (.inl ⟨hr, hend, (Host.Outcome.next.inj h).symm⟩)
  · exact .inr (.inr (.inl ⟨hr, _, _, (Host.Outcome.next.inj h).symm⟩))
  · exact .inr (.inr (.inl ⟨hr, _, _, (Host.Outcome.next.inj h).symm⟩))
  · have hword : s.position + s.kind.wordBytes ≤ s.buf.len := by omega
    obtain ⟨g, hg, hplain⟩ := exec_decoded hi
    obtain ⟨r, hsettle, hyield⟩ := plain_settles hword hg
    rw [hplain s rfl rfl rfl, hsettle] at h
    rcases settle_next h with ⟨y, hy, rfl⟩ | ⟨k, a, -, rfl⟩
    · exact .inr (.inr (.inr ⟨hr, hword, y, hyield y hy, rfl⟩))
    · exact .inr (.inr (.inl ⟨hr, k, a, rfl⟩))

/-- A working copy keeps the launch arguments and the status (R10, R178). -/
structure KeepsSession (s : State) (y : Yield) : Prop where
  kind : y.after.kind = s.kind
  cfg : y.after.cfg = s.cfg
  buf : y.after.buf = s.buf
  status : y.after.status = s.status

theorem YieldsFrom.keepsSession {s : State} {y : Yield} (h : YieldsFrom s y) : KeepsSession s y := by
  cases h <;> exact ⟨rfl, rfl, rfl, rfl⟩

theorem StepYield.keepsSession {s : State} {y : Yield} (h : StepYield s y) : KeepsSession s y := by
  cases h <;> exact ⟨rfl, rfl, rfl, rfl⟩

/-! ### Every instruction and every step -/

theorem place_cases (i : Instr) : i.place = .header ∨ ∃ v, i = .autoCrc v := by
  cases i with
  | autoCrc v => exact .inr ⟨v, rfl⟩
  | _ => exact .inl rfl

/-- Settles O49: the mode is tested before anything else. -/
theorem wrongModeIsUnexpectedWord : Obligations.WrongModeIsUnexpectedWord :=
  fun _ _ hplace hs => exec_of_wrong_mode hplace hs

/-- An instruction that fails takes the error and does nothing else; one that does not fail leaves the status. -/
theorem exec_failed {s t : State} {kind : ErrorKind} {offset : Nat} (hrun : s.status = .running)
    (hfail : t.status = .failed kind offset) {i : Instr} (h : exec i s = .next t) : t = s.errored kind offset := by
  have failed : ∀ k a, t = s.fail k a → t = s.errored kind offset := by
    rintro k a rfl
    obtain ⟨rfl, rfl⟩ := Status.failed.inj hfail
    rfl
  rcases place_cases i with hplace | ⟨v, rfl⟩
  · rcases exec_cases i s hplace with ⟨y, hy, hexec⟩ | ⟨k, a, hexec⟩ <;> rw [hexec] at h <;> cases h
    · rw [State.commit_status, hy.keepsSession.status, hrun] at hfail
      cases hfail
    · exact failed _ _ rfl
  · rcases exec_autoCrc_cases v s with ⟨o, -, -, -, hexec⟩ | ⟨o, hexec⟩ | hexec <;> rw [hexec] at h <;> cases h
    · exact absurd (hrun.symm.trans hfail) nofun
    · exact failed _ _ rfl
    · exact failed _ _ rfl

theorem step_failed {s t : State} {kind : ErrorKind} {offset : Nat} (hrun : s.status = .running)
    (hfail : t.status = .failed kind offset) (h : step s = .next t) : t = s.errored kind offset := by
  rcases step_inversion h with ⟨hstop, -⟩ | ⟨-, -, rfl⟩ | ⟨-, k, a, rfl⟩ | ⟨-, -, y, hy, rfl⟩
  · exact absurd hrun hstop
  · cases hfail
  · obtain ⟨rfl, rfl⟩ := Status.failed.inj hfail
    rfl
  · rw [State.commit_status, hy.keepsSession.status, hrun] at hfail
    cases hfail

/-- Settles O50: every error is the shared operation's. -/
theorem anErrorChangesOnlyTheStatus : Obligations.AnErrorChangesOnlyTheStatus :=
  fun _ _ _ _ hrun hfail => ⟨fun _ => exec_failed hrun hfail, step_failed hrun hfail⟩

theorem exec_keepsLaunch {s t : State} {i : Instr} (h : exec i s = .next t) :
    t.kind = s.kind ∧ t.cfg = s.cfg ∧ t.buf = s.buf := by
  rcases place_cases i with hplace | ⟨v, rfl⟩
  · rcases exec_cases i s hplace with ⟨y, hy, hexec⟩ | ⟨k, a, hexec⟩ <;> rw [hexec] at h <;> cases h
    · obtain ⟨hkind, hcfg, hbuf, -⟩ := hy.keepsSession
      exact ⟨hkind, hcfg, hbuf⟩
    · exact ⟨rfl, rfl, rfl⟩
  · rcases exec_autoCrc_cases v s with ⟨o, -, -, -, hexec⟩ | ⟨o, hexec⟩ | hexec <;> rw [hexec] at h <;> cases h <;>
      exact ⟨rfl, rfl, rfl⟩

theorem step_keepsLaunch {s t : State} (h : step s = .next t) : t.kind = s.kind ∧ t.cfg = s.cfg ∧ t.buf = s.buf := by
  rcases step_inversion h with ⟨-, rfl⟩ | ⟨-, -, rfl⟩ | ⟨-, k, a, rfl⟩ | ⟨-, -, y, hy, rfl⟩
  · exact ⟨rfl, rfl, rfl⟩
  · exact ⟨rfl, rfl, rfl⟩
  · exact ⟨rfl, rfl, rfl⟩
  · obtain ⟨hkind, hcfg, hbuf, -⟩ := hy.keepsSession
    exact ⟨hkind, hcfg, hbuf⟩

/-- Settles O51: no working copy, error or end touches the launch arguments. -/
theorem launchArgumentsNeverChange : Obligations.LaunchArgumentsNeverChange := by
  refine fun s t => ⟨fun i => exec_keepsLaunch, fun h => ?_⟩
  obtain ⟨hkind, hcfg, hbuf⟩ := step_keepsLaunch h
  exact ⟨hkind, hcfg, hbuf, fun a => by rw [hbuf]⟩

theorem exec_answers (i : Instr) (s : State) : ∃ t, exec i s = .next t := by
  rcases place_cases i with hplace | ⟨v, rfl⟩
  · rcases exec_cases i s hplace with ⟨y, -, hexec⟩ | ⟨k, a, hexec⟩ <;> exact ⟨_, hexec⟩
  · exact ⟨autoWord s v, rfl⟩

theorem step_answers (s : State) : ∃ t, step s = .next t := by
  rcases step_cases s with ⟨-, hs⟩ | ⟨-, -, hs⟩ | ⟨-, -, -, hs⟩ | ⟨-, -, -, hs⟩ | ⟨-, -, i, -, hs⟩
  case inr.inr.inr.inr => exact hs ▸ exec_answers i s
  all_goals exact ⟨_, hs⟩

/-- Settles O52: every procedure settles to a next state. -/
theorem everyStepHasAResult : Obligations.EveryStepHasAResult := ⟨step_answers, exec_answers⟩

/-! ### The sequence -/

/-- Settles O12: field by field; the default tables are legal for every kind. -/
theorem sessionStartState : Obligations.SessionStartState := by
  refine ⟨fun k c b => ⟨rfl, rfl, rfl, rfl, rfl, rfl, rfl, rfl, rfl, rfl⟩, rfl, fun k => ?_, rfl⟩
  cases k <;> decide

/-- Settles O13: the bytes a step fetches are those of the statement. -/
theorem stepRunsTheDecodedInstruction : Obligations.StepRunsTheDecodedInstruction := by
  intro s i hrun hlen hi
  have hpos := DeviceKind.wordBytes_pos s.kind
  have hfetch : decode s.cfg s.kind .header s.fetchBytes = .ok i := hi
  rcases step_cases s with ⟨hr, -⟩ | ⟨-, hend, -⟩ | ⟨-, -, hcut, -⟩ | ⟨-, -, ⟨r, hr⟩, -⟩ | ⟨-, -, j, hj, hs⟩
  · exact absurd hrun hr
  · omega
  · omega
  · cases hfetch.symm.trans hr
  · cases hfetch.symm.trans hj
    exact hs

/-- Settles O14: the two tests a step makes before it decodes. -/
theorem sequenceEndsAtTheBuffersEnd : Obligations.SequenceEndsAtTheBuffersEnd := by
  intro s hrun
  have hpos := DeviceKind.wordBytes_pos s.kind
  rcases step_cases s with ⟨hr, -⟩ | ⟨-, hend, hs⟩ | ⟨-, hne, hcut, hs⟩ | ⟨-, hlen, -, -⟩ | ⟨-, hlen, -⟩
  · exact absurd hrun hr
  · exact ⟨fun _ => hs, fun _ _ => by omega⟩
  · exact ⟨fun hend => absurd hend hne, fun _ _ => hs⟩
  · exact ⟨fun _ => by omega, fun _ _ => by omega⟩
  · exact ⟨fun _ => by omega, fun _ _ => by omega⟩

/-- Once the session has stopped, a step leaves it as it is (R182). -/
theorem step_stopped {s : State} (h : s.status ≠ .running) : step s = .next s := by
  unfold step fetch
  rw [if_neg h]

/-- Settles O17: a stopped session steps to itself, and `Next` answers `End` without a step. -/
theorem nothingHappensAfterTheEnd : Obligations.NothingHappensAfterTheEnd :=
  fun s h => ⟨step_stopped h, by rw [peek, nextResult, if_neg h]⟩

/-- A step of a running session adds one result. -/
theorem step_adds_result {s t : State} (hrun : s.status = .running) (h : step s = .next t) :
    ∃ r, t.results = s.results ++ [r] := by
  rcases step_inversion h with ⟨hstop, -⟩ | ⟨-, -, rfl⟩ | ⟨-, k, a, rfl⟩ | ⟨-, -, y, -, rfl⟩
  · exact absurd hrun hstop
  · exact ⟨_, rfl⟩
  · exact ⟨_, rfl⟩
  · exact ⟨_, rfl⟩

/-- Settles O18: the one result a step adds is the last of the stream, which `Peek` shows. -/
theorem peekShowsTheNextResult : Obligations.PeekShowsTheNextResult := by
  intro s t hrun h
  obtain ⟨r, hr⟩ := step_adds_result hrun h
  exact ⟨r, hr, by simp [peek, nextResult, hrun, h, hr]⟩

end Sys2Proof.Machine

/-!
The invariants of a session (spec/10_state.md, spec/45_sequence.md R183): each holds at session start and is kept by every case of
`step_inversion`; every run ends by the progress of the cursor.
-/

namespace Sys2Proof.Machine

theorem zero_lt_bound (k : DeviceKind) : (0 : BitVec 32).toNat < checksumBound k := by
  obtain ⟨n, hn⟩ := checksumBound_pow k
  exact hn ▸ Nat.two_pow_pos n

/-- Settles O58: at session start position and accumulator are 0, no register was written and the stream is empty. -/
theorem sessionStartMeetsTheInvariants : Obligations.SessionStartMeetsTheInvariants := by
  have start : ∀ (k : DeviceKind) (c : Config) (b : Memory),
      (State.start k c b).CursorOk ∧ (State.start k c b).ChecksumOk ∧ (State.start k c b).LastRegisterOk ∧
      (State.start k c b).StreamOk ∧ (State.start k c b).OutputsOk ∧ (State.start k c b).ModeOk := by
    intro k c b
    exact ⟨⟨Nat.zero_le _, dvd_zero _⟩, zero_lt_bound k, nofun, ⟨rfl, .nil, nofun⟩, ⟨nofun, nofun, nofun⟩,
      ⟨rfl, fun _ => ⟨rfl, rfl, rfl⟩⟩⟩
  refine ⟨start, ?_⟩
  obtain ⟨hcursor, hchecksum, hregister, hstream, houtputs, hmode⟩ := start .virtexII State.reset.cfg Memory.empty
  exact ⟨hcursor, hchecksum, hregister, hstream, houtputs, hmode, rfl⟩

/-! ### The cursor -/

/-- A committed packet moves the cursor by at least the header's word, within the buffer, by whole words (R52, R179). -/
theorem StepYield.cursor {s : State} {y : Yield} (h : StepYield s y) (hl : s.position + s.kind.wordBytes ≤ s.buf.len) :
    y.after.position ≤ s.buf.len ∧ ∃ m, 0 < m ∧ y.after.position = s.position + m * s.kind.wordBytes := by
  have hwb := wordBytes_cases s.kind
  cases h with
  | dummy | nop => exact ⟨hl, 1, Nat.one_pos, by simp⟩
  | widthDetect hk _ hl8 => exact ⟨hl8, 2, Nat.two_pos, by simp [hk]⟩
  | sync n hn hl =>
    rcases hn with rfl | rfl
    · exact ⟨hl, 1, Nat.one_pos, by simp⟩
    · exact ⟨hl, 2, Nat.two_pos, by simp⟩
  | write reg e n p _ hl => exact ⟨hl, 1 + n, by omega, by simp [writePayload, Nat.add_mul, Nat.add_assoc]⟩
  | long header n e pkt _ hh hl => exact ⟨hl, header + n, by omega, by simp [longPayload, Nat.add_mul, Nat.add_assoc]⟩
  | longChecked header n e pkt _ hh hl =>
    refine ⟨hl, header + n + 4 / s.kind.wordBytes, Nat.add_pos_left (by omega) _, ?_⟩
    have hword : 4 / s.kind.wordBytes * s.kind.wordBytes = 4 := by rcases hwb with hk | hk <;> rw [hk]
    simp [checked, longPayload, Nat.add_mul, Nat.add_assoc, hword]
  | bugFdri hk hl =>
    obtain ⟨hpos, hend⟩ := bugFdriRun_bounds s hl
    exact ⟨hend, bugFdriRun s, hpos, by simp [bugYield, hk, Nat.mul_comm]⟩

/-- Settles O53: every commit moves the cursor by whole words within the buffer, and nothing else moves it. -/
theorem stepKeepsTheCursorInvariant : Obligations.StepKeepsTheCursorInvariant := by
  intro s t hcursor h
  rcases step_inversion h with ⟨hstop, rfl⟩ | ⟨-, -, rfl⟩ | ⟨-, k, a, rfl⟩ | ⟨-, hl, y, hy, rfl⟩
  · exact ⟨hcursor, le_rfl, fun hrun => absurd hrun hstop⟩
  · exact ⟨hcursor, le_rfl, nofun⟩
  · exact ⟨hcursor, le_rfl, nofun⟩
  · obtain ⟨hend, m, hm, hmove⟩ := hy.cursor hl
    have hword : s.kind.wordBytes ≤ m * s.kind.wordBytes := Nat.le_mul_of_pos_left _ hm
    refine ⟨⟨?_, ?_⟩, ?_, fun _ _ => ?_⟩
    · rw [State.commit_buf, hy.keepsSession.buf]
      exact hend
    · rw [State.commit_kind, hy.keepsSession.kind, State.commit_position, hmove]
      exact dvd_add hcursor.2 (dvd_mul_left _ _)
    · rw [State.commit_position]
      omega
    · rw [State.commit_position]
      omega

/-! ### The accumulator and the last register -/

/-- Feeding keeps the accumulator below the bound (R80). -/
theorem absorb_lt_bound {s : State} (h : s.ChecksumOk) (e : RegEntry) (ws : List Word) :
    (s.absorb e ws).toNat < checksumBound s.kind := by
  rcases absorb_cases s e ws with habs | habs <;> rw [habs]
  · exact h
  · exact feedAll_keeps (P := fun acc => acc.toNat < checksumBound s.kind) (fun acc w _ => feed_lt_bound s.kind acc w e.id) h ws

theorem StepYield.checksum {s : State} {y : Yield} (h : StepYield s y) (hs : s.ChecksumOk) :
    y.after.checksum.toNat < checksumBound s.kind := by
  cases h with
  | dummy | widthDetect | sync | nop => exact hs
  | write =>
    rw [finishWrite_checksum]
    split
    · exact zero_lt_bound s.kind
    · exact absorb_lt_bound hs _ _
  | long | bugFdri => exact absorb_lt_bound hs _ _
  | longChecked =>
    simp only [checked, afterAutoCheck]
    split
    · exact zero_lt_bound s.kind
    · exact absorb_lt_bound hs _ _

/-- Only a Type-1 write sets `last_register`, to an id that it has just looked up (R102). -/
theorem StepYield.lastRegister {s : State} {y : Yield} (h : StepYield s y) :
    y.after.lastRegister = s.lastRegister ∨
      ∃ reg e, y.after.lastRegister = some reg ∧ s.lookupReg reg = some e := by
  cases h with
  | dummy | widthDetect | sync | nop | long | longChecked | bugFdri => exact .inl rfl
  | write reg e n p _ _ he =>
    have hid : e.id = reg := (findReg_eq_some he).2
    exact .inr ⟨reg, e, congrArg some hid, he⟩

/-- Settles O54: what is fed stays below the bound, and a register written is one that was looked up. -/
theorem stepKeepsTheRegisterInvariants : Obligations.StepKeepsTheRegisterInvariants := by
  intro s t h
  rcases step_inversion h with ⟨-, rfl⟩ | ⟨-, -, rfl⟩ | ⟨-, k, a, rfl⟩ | ⟨-, -, y, hy, rfl⟩
  · exact ⟨id, id⟩
  · exact ⟨id, id⟩
  · exact ⟨id, id⟩
  · refine ⟨fun hs => ?_, fun hs reg hreg => ?_⟩
    · rw [State.ChecksumOk, State.commit_kind, hy.keepsSession.kind]
      exact hy.checksum hs
    · rw [State.lookupReg_congr (s := s) (t := s.commit y) hy.keepsSession.kind hy.keepsSession.cfg]
      rw [State.commit_lastRegister] at hreg
      rcases hy.lastRegister with hsame | ⟨reg', e, hnew, he⟩
      · exact hs reg (hsame ▸ hreg)
      · cases hnew.symm.trans hreg
        rw [he]
        rfl

/-! ### The result stream -/

/-- A result that is no packet, added to a stream of packets, adds no offset. -/
theorem filterMap_offset_append {rs : List StepResult} {r : StepResult} (h : r.packetOffset = none) :
    (rs ++ [r]).filterMap StepResult.packetOffset = rs.filterMap StepResult.packetOffset := by
  simp [List.filterMap_append, h]

/-- Settles O55: the running stream is all packets, a commit adds one whose offset is the position it moves on from, the end and an
error add the last result. -/
theorem stepKeepsTheResultStream : Obligations.StepKeepsTheResultStream := by
  intro s t hstream h
  obtain ⟨hshape, hrising, hbelow⟩ := hstream
  rcases step_inversion h with ⟨-, rfl⟩ | ⟨hrun, -, rfl⟩ | ⟨hrun, k, a, rfl⟩ | ⟨hrun, hl, y, hy, rfl⟩
  · exact ⟨hshape, hrising, hbelow⟩
  · rw [hrun] at hshape
    refine ⟨⟨s.results, rfl, hshape⟩, ?_⟩
    rw [State.finish_results, State.finish_position, filterMap_offset_append rfl]
    exact ⟨hrising, hbelow⟩
  · rw [hrun] at hshape
    refine ⟨⟨s.results, rfl, hshape⟩, ?_⟩
    rw [State.fail_results, State.fail_position, filterMap_offset_append rfl]
    exact ⟨hrising, hbelow⟩
  · rw [hrun] at hshape
    have hpos := DeviceKind.wordBytes_pos s.kind
    obtain ⟨-, m, hm, hmove⟩ := hy.cursor hl
    have hword : s.kind.wordBytes ≤ m * s.kind.wordBytes := Nat.le_mul_of_pos_left _ hm
    have hoffsets : (s.commit y).results.filterMap StepResult.packetOffset =
        s.results.filterMap StepResult.packetOffset ++ [s.position] := by
      simp [StepResult.packetOffset]
    refine ⟨?_, ?_, ?_⟩
    · rw [State.commit_status, hy.keepsSession.status, hrun]
      simpa [StepResult.isPacket] using hshape
    · rw [hoffsets, List.pairwise_append]
      refine ⟨hrising, List.pairwise_singleton _ _, fun a ha b hb => ?_⟩
      rw [List.mem_singleton.mp hb]
      exact hbelow a ha
    · rw [hoffsets]
      intro a ha
      rw [State.commit_position]
      rcases List.mem_append.mp ha with ha | ha
      · have := hbelow a ha
        omega
      · rw [List.mem_singleton.mp ha]
        omega

/-! ### The mode -/

/-- What a commit does to the mode and to what the mode guards: in Unsynced mode framing, in Synced mode no Sync Word. -/
theorem StepYield.mode {s : State} {y : Yield} (h : StepYield s y) (o : Nat) :
    ((StepResult.packet y.packet o y.events).isSyncWord.toNat + s.synced.toNat = y.after.synced.toNat) ∧
    (y.after.synced = false → s.synced = false ∧ y.after.lastRegister = s.lastRegister ∧
      y.after.checksum = s.checksum ∧ (StepResult.packet y.packet o y.events).isPreSync = true) := by
  cases h with
  | dummy hs | widthDetect _ hs => exact ⟨by simp [hs, StepResult.isSyncWord], fun _ => ⟨hs, rfl, rfl, rfl⟩⟩
  | sync n hn hl hs => exact ⟨by simp [hs, StepResult.isSyncWord], nofun⟩
  | nop hs => exact ⟨by simp [hs, StepResult.isSyncWord], nofun⟩
  | bugFdri _ _ hs =>
    exact ⟨by simp [bugYield, StepResult.isSyncWord], fun h => absurd (hs.symm.trans h) nofun⟩
  | write reg e n p hs _ _ _ hb =>
    refine ⟨?_, fun h => absurd (hs.symm.trans h) nofun⟩
    rcases build_ok hb with ⟨-, c, code, rest, -, -, rfl⟩ | ⟨-, rfl⟩ | ⟨-, rfl⟩ | ⟨-, rfl⟩ | ⟨-, -, rfl⟩ | ⟨-, -, rfl⟩ <;>
      simp [StepResult.isSyncWord]
  | long header n e pkt hs _ _ hb | longChecked header n e pkt hs _ _ hb =>
    refine ⟨?_, fun h => absurd (hs.symm.trans h) nofun⟩
    rcases longBuild_ok hb with ⟨-, rfl⟩ | ⟨-, rfl⟩ | ⟨-, -, rfl⟩ <;> simp [checked, StepResult.isSyncWord]

/-- Settles O57: the Sync Word is the one commit that sets the mode, and before it only framing is committed. -/
theorem stepKeepsTheModeHistory : Obligations.StepKeepsTheModeHistory := by
  intro s t hmode h
  obtain ⟨hcount, hbefore⟩ := hmode
  rcases step_inversion h with ⟨-, rfl⟩ | ⟨-, -, rfl⟩ | ⟨-, k, a, rfl⟩ | ⟨-, -, y, hy, rfl⟩
  · exact ⟨⟨hcount, hbefore⟩, id⟩
  · refine ⟨⟨by simpa [StepResult.isSyncWord] using hcount, fun hs => ?_⟩, id⟩
    obtain ⟨hreg, hsum, hall⟩ := hbefore hs
    exact ⟨hreg, hsum, by simpa [StepResult.isPreSync] using hall⟩
  · refine ⟨⟨by simpa [StepResult.isSyncWord] using hcount, fun hs => ?_⟩, id⟩
    obtain ⟨hreg, hsum, hall⟩ := hbefore hs
    exact ⟨hreg, hsum, by simpa [StepResult.isPreSync] using hall⟩
  · obtain ⟨hsync, hpre⟩ := hy.mode s.position
    refine ⟨⟨?_, fun hs => ?_⟩, fun hs => ?_⟩
    · rw [State.commit_results, State.commit_synced, List.countP_append, hcount, ← hsync, List.countP_singleton]
      cases (StepResult.packet y.packet s.position y.events).isSyncWord <;> simp [Nat.add_comm]
    · obtain ⟨hold, hreg, hsum, hpacket⟩ := hpre hs
      obtain ⟨hreg', hsum', hall⟩ := hbefore hold
      exact ⟨hreg.trans hreg', hsum.trans hsum', by simp [List.all_append, hall, hpacket]⟩
    · rw [State.commit_synced]
      cases hafter : y.after.synced with
      | true => rfl
      | false => exact absurd (hs.symm.trans (hpre hafter).1) nofun

/-! ### Events and windows -/

/-- The value of one or two words is the big-endian value of its width in the buffer (R99, R45). -/
theorem reads_valueOf (m : Memory) (p : Nat) {wb n : Nat} (hw : wb = 4 ∨ wb = 2) (hn : n = 1 ∨ n = 2) (acc : BitVec 32) :
    (crcCheck p (valueOf wb (wordsAt m p wb n)) acc).Reads m (p + n * wb) := by
  rcases hn with rfl | rfl
  · rw [wordsAt_one]
    rcases hw with rfl | rfl <;> exact ⟨le_rfl, rfl⟩
  · rw [wordsAt_two]
    rcases hw with rfl | rfl
    · exact ⟨le_rfl, rfl⟩
    · exact ⟨le_rfl, (m.read_four_eq_append p).symm⟩

/-- The words a fixed cardinality admits (R32). -/
theorem cardAdmits_fixed {card : Card} {n : Nat} (hc : cardAdmits card n = true) (hv : card ≠ .var) : n = 1 ∨ n = 2 := by
  cases card with
  | one => exact .inl (by simpa [cardAdmits] using hc)
  | two => exact .inr (by simpa [cardAdmits] using hc)
  | var => exact absurd rfl hv

theorem crcFixed_card {c : Config} {k : DeviceKind} (h : crcFixed c k = true) {reg : RegId} {e : RegEntry}
    (he : c.lookupReg k reg = some e) (ht : e.tag = .crc) : e.card ≠ .var := by
  have hall := List.all_eq_true.mp h e (findReg_eq_some he).1
  simpa [ht] using hall

/-- Bytes once consumed stay consumed. -/
theorem CrcCheck.Reads.mono {m : Memory} {pos pos' : Nat} (hpos : pos ≤ pos') {ev : CrcCheck} (h : ev.Reads m pos) :
    ev.Reads m pos' := by
  unfold CrcCheck.Reads at h ⊢
  split at h
  · exact ⟨h.1.trans hpos, h.2⟩
  · exact ⟨h.1.trans hpos, h.2⟩
  · exact ⟨h.1.trans hpos, h.2⟩

/-- What `OutputsOk` asks of one event. -/
def EventOk (s : State) (pos : Nat) (ev : CrcCheck) : Prop :=
  ev.matched = (ev.expected.toNat == ev.computed.toNat) ∧ (crcFixed s.cfg s.kind = true → ev.Reads s.buf pos)

/-- A commit carries an event for a Crc write or an auto-checksum word, and it is true to the buffer (R87). -/
theorem StepYield.events {s : State} {y : Yield} (h : StepYield s y) :
    y.events = [] ∨ ∃ ev, y.events = [ev] ∧ EventOk s y.after.position ev := by
  cases h with
  | dummy | widthDetect | sync | nop | long | bugFdri => exact .inl rfl
  | write reg e n p hs hl he hc hb =>
    by_cases ht : e.tag = .crc
    · refine .inr ⟨_, writeEvents_crc ht, rfl, fun hfixed => ?_⟩
      exact reads_valueOf s.buf _ (wordBytes_cases s.kind) (cardAdmits_fixed hc (crcFixed_card hfixed he ht)) s.checksum
    · exact .inl (writeEvents_other ht)
  | longChecked => exact .inr ⟨_, rfl, rfl, fun _ => ⟨le_rfl, rfl⟩⟩

/-- The window of a committed packet lies between its header and the position after it (R210). -/
theorem StepYield.window {s : State} {y : Yield} (h : StepYield s y) {w : Window} (hw : y.packet.window? = some w) :
    s.position ≤ w.offset ∧ w.offset + w.length ≤ y.after.position := by
  cases h with
  | dummy | widthDetect | sync | nop => cases hw
  | write reg e n p hs hl he hc hb =>
    rcases build_ok hb with ⟨-, c, code, rest, -, -, rfl⟩ | ⟨-, rfl⟩ | ⟨-, rfl⟩ | ⟨-, rfl⟩ | ⟨-, -, rfl⟩ | ⟨-, -, rfl⟩ <;>
      cases hw <;> exact ⟨Nat.le_add_right _ _, le_rfl⟩
  | long header n e pkt hs hh hl hb =>
    rcases longBuild_ok hb with ⟨-, rfl⟩ | ⟨-, rfl⟩ | ⟨-, -, rfl⟩ <;> cases hw <;> exact ⟨Nat.le_add_right _ _, le_rfl⟩
  | longChecked header n e pkt hs hh hl hb =>
    rcases longBuild_ok hb with ⟨-, rfl⟩ | ⟨-, rfl⟩ | ⟨-, -, rfl⟩ <;> cases hw <;>
      exact ⟨Nat.le_add_right _ _, Nat.le_add_right _ _⟩
  | bugFdri =>
    cases hw
    exact ⟨le_rfl, le_rfl⟩

/-- A result without event and window leaves the outputs true. -/
theorem outputsOk_append {s t : State} (hs : s.OutputsOk) {r : StepResult} (hr : r.packetOffset = none)
    (hresults : t.results = s.results ++ [r]) (hlaunch : t.kind = s.kind ∧ t.cfg = s.cfg ∧ t.buf = s.buf)
    (hpos : t.position = s.position) : t.OutputsOk := by
  obtain ⟨hevents, hone, hwindows⟩ := hs
  obtain ⟨hkind, hcfg, hbuf⟩ := hlaunch
  have hnone : r.events = [] ∧ ∀ pkt offset events, r ≠ .packet pkt offset events := by
    cases r with
    | packet => cases hr
    | endOfSequence | error => exact ⟨rfl, nofun⟩
  refine ⟨?_, ?_, ?_⟩
  · rw [hkind, hcfg, hbuf, hpos, State.eventStream, hresults, eventStream_append]
    simpa [hnone.1, State.eventStream] using hevents
  · simpa [hresults, hnone.1, or_imp, forall_and] using hone
  · intro pkt offset events hmem
    rw [hresults, List.mem_append, List.mem_singleton] at hmem
    rw [hpos]
    rcases hmem with hmem | hmem
    · exact hwindows pkt offset events hmem
    · exact absurd hmem.symm (hnone.2 pkt offset events)

/-- Settles O56: the results already there stay true as the position grows, and a commit adds a true one. -/
theorem stepKeepsTheOutputsTrue : Obligations.StepKeepsTheOutputsTrue := by
  intro s t hs h
  rcases step_inversion h with ⟨-, rfl⟩ | ⟨-, -, rfl⟩ | ⟨-, k, a, rfl⟩ | ⟨-, hl, y, hy, rfl⟩
  · exact hs
  · exact outputsOk_append hs rfl rfl ⟨rfl, rfl, rfl⟩ rfl
  · exact outputsOk_append hs rfl rfl ⟨rfl, rfl, rfl⟩ rfl
  obtain ⟨hevents, hone, hwindows⟩ := hs
  obtain ⟨-, m, -, hmove⟩ := hy.cursor hl
  have hpos : s.position ≤ y.after.position := by omega
  have hnew : y.events.length ≤ 1 ∧ ∀ ev ∈ y.events, EventOk s y.after.position ev := by
    rcases hy.events with hnil | ⟨ev, hev, hok⟩
    · rw [hnil]
      exact ⟨Nat.zero_le _, nofun⟩
    · rw [hev]
      exact ⟨le_rfl, fun ev' hev' => List.mem_singleton.mp hev' ▸ hok⟩
  refine ⟨fun ev hev => ?_, fun r hr => ?_, fun pkt offset events hmem w hw => ?_⟩
  · rw [State.commit_kind, State.commit_cfg, State.commit_buf, State.commit_position, hy.keepsSession.kind,
      hy.keepsSession.cfg, hy.keepsSession.buf]
    rw [State.eventStream, State.commit_results, eventStream_append, List.mem_append] at hev
    rcases hev with hev | hev
    · obtain ⟨hmatched, hreads⟩ := hevents ev hev
      exact ⟨hmatched, fun hfixed => (hreads hfixed).mono hpos⟩
    · exact hnew.2 ev (by simpa [StepResult.events] using hev)
  · rw [State.commit_results, List.mem_append, List.mem_singleton] at hr
    rcases hr with hr | rfl
    · exact hone r hr
    · exact hnew.1
  · rw [State.commit_results, List.mem_append, List.mem_singleton] at hmem
    rw [State.commit_position]
    rcases hmem with hmem | hmem
    · obtain ⟨hlow, hhigh⟩ := hwindows pkt offset events hmem w hw
      exact ⟨hlow, hhigh.trans hpos⟩
    · obtain ⟨rfl, rfl, rfl⟩ := StepResult.packet.inj hmem
      exact hy.window hw

/-! ### Every run ends -/

/-- A run takes the first step, then the others. -/
theorem core_run_succ (M : Host.Core) {s t : M.State} (h : M.step s = .next t) (n : Nat) : M.run (n + 1) s = M.run n t := by
  rw [Host.Core.run, h]

theorem run_succ {s t : State} (h : step s = .next t) (n : Nat) :
    Host.Core.run Sys2Proof.core (n + 1) s = Host.Core.run Sys2Proof.core n t := core_run_succ Sys2Proof.core h n

/-- A stopped session stays as it is for any number of steps. -/
theorem run_stopped {s : State} (h : s.status ≠ .running) (n : Nat) : Host.Core.run Sys2Proof.core n s = .next s := by
  induction n with
  | zero => rfl
  | succ n ih => exact (run_succ (step_stopped h) n).trans ih

/-- A step stops the session or moves the cursor by at least one word within the buffer (R179). -/
theorem step_progress {s t : State} (h : step s = .next t) :
    t.status ≠ .running ∨ (s.position + s.kind.wordBytes ≤ t.position ∧ t.position ≤ t.buf.len ∧ t.buf.len = s.buf.len) := by
  rcases step_inversion h with ⟨hstop, rfl⟩ | ⟨-, -, rfl⟩ | ⟨-, k, a, rfl⟩ | ⟨-, hl, y, hy, rfl⟩
  · exact .inl hstop
  · exact .inl nofun
  · exact .inl nofun
  · obtain ⟨hend, m, hm, hmove⟩ := hy.cursor hl
    have hword : s.kind.wordBytes ≤ m * s.kind.wordBytes := Nat.le_mul_of_pos_left _ hm
    have hbuf : (s.commit y).buf.len = s.buf.len := congrArg Memory.len hy.keepsSession.buf
    exact .inr ⟨by rw [State.commit_position]; omega, by rw [hbuf]; exact hend, hbuf⟩

/-- By induction on the steps: one more step than whole words are left stops the session. -/
theorem run_ends (n : Nat) : ∀ s : State, s.position ≤ s.buf.len → (s.buf.len - s.position) / s.kind.wordBytes < n →
    ∃ t : State, Host.Core.run Sys2Proof.core n s = .next t ∧ t.status ≠ .running := by
  induction n with
  | zero => exact fun _ _ h => absurd h (Nat.not_lt_zero _)
  | succ n ih =>
    intro s hpos hwords
    obtain ⟨t, hstep⟩ := step_answers s
    rw [run_succ hstep]
    rcases step_progress hstep with hstop | ⟨hmove, hend, hlen⟩
    · exact ⟨t, run_stopped hstop n, hstop⟩
    · refine ih t hend ?_
      have hwb := DeviceKind.wordBytes_pos s.kind
      have hfewer : (t.buf.len - t.position) + s.kind.wordBytes ≤ s.buf.len - s.position := by omega
      have hdiv := Nat.div_le_div_right (c := s.kind.wordBytes) hfewer
      rw [Nat.add_div_right _ hwb] at hdiv
      rw [(step_keepsLaunch hstep).1]
      omega

/-- Settles O59: `run_ends` for the number of whole words left. -/
theorem everyRunEndsInTime : Obligations.EveryRunEndsInTime :=
  fun s hpos => run_ends _ s hpos (Nat.lt_succ_self _)

end Sys2Proof.Machine

/-!
What a step does not depend on (spec/20_memory.md R42, R43, R50): the results already there, and how the bytes of the buffer are
written down. Every plain instruction is run on a session moved to another buffer of the same bytes and to other results.
-/

namespace Sys2Proof.Machine

/-! ### Buffers of the same bytes -/

/-- Two buffers of one length that agree on every offset below it. -/
def SameBytes (m m' : Memory) : Prop := m.len = m'.len ∧ ∀ a, a < m.len → m.get a = m'.get a

theorem SameBytes.refl (m : Memory) : SameBytes m m := ⟨rfl, fun _ _ => rfl⟩

theorem SameBytes.slice {m m' : Memory} (h : SameBytes m m') {a n : Nat} (hn : a + n ≤ m'.len) :
    m.slice a n = m'.slice a n :=
  Memory.slice_congr fun i _ hi => h.2 i (by rw [h.1]; omega)

theorem SameBytes.wordsAt {m m' : Memory} (h : SameBytes m m') {p wb n : Nat} (hn : p + n * wb ≤ m'.len) :
    wordsAt m p wb n = wordsAt m' p wb n :=
  wordsAt_congr fun i _ hi => h.2 i (by rw [h.1]; omega)

theorem SameBytes.readWord {m m' : Memory} (h : SameBytes m m') (pos n : Nat) : readWord m pos n = readWord m' pos n := by
  unfold Machine.readWord
  rw [h.1]
  split
  · rw [Memory.read, Memory.read, h.slice ‹_›]
  · rfl

theorem SameBytes.zeroWords {m m' : Memory} (h : SameBytes m m') (pos fuel : Nat) :
    zeroWords m pos fuel = zeroWords m' pos fuel := by
  induction fuel generalizing pos with
  | zero => rfl
  | succ n ih =>
    have hpeek : peekWord m pos 4 = peekWord m' pos 4 := congrArg (Option.map Prod.fst) (h.readWord pos 4)
    rw [Machine.zeroWords, Machine.zeroWords, hpeek, ih]

/-! ### A session moved to another buffer and other results -/

/-- The session over another buffer, with other results. -/
def State.over (s : State) (m : Memory) (rs : List StepResult) : State := { s with buf := m, results := rs }

def Yield.over (m : Memory) (rs : List StepResult) (y : Yield) : Yield := { y with after := y.after.over m rs }

section
variable {s : State} {m : Memory} (hm : SameBytes m s.buf) (rs : List StepResult)

theorem inMode_over (b : Bool) (r : Except Stop Yield) :
    inMode b (s.over m rs) (r.map (Yield.over m rs)) = (inMode b s r).map (Yield.over m rs) := by
  by_cases h : s.synced = b
  · rw [inMode_right h, inMode_right (s := s.over m rs) h]
  · rw [inMode_wrong h, inMode_wrong (s := s.over m rs) h]
    rfl

theorem longYield_over (e : RegEntry) (pl : Payload) (pkt : Packet) :
    longYield (s.over m rs) e pl pkt = (longYield s e pl pkt).over m rs := rfl

include hm

theorem fetchBytes_over : (s.over m rs).fetchBytes = s.fetchBytes := by
  have hslice : m.slice s.position (min longestEncoding (m.len - s.position)) = s.fetchBytes := by
    rw [hm.1, State.fetchBytes]
    by_cases h : s.position ≤ s.buf.len
    · exact hm.slice (by omega)
    · have hzero : min longestEncoding (s.buf.len - s.position) = 0 := by omega
      rw [hzero]
      rfl
  exact hslice

theorem payload_over (p wb n : Nat) : payload (s.over m rs) p wb n = payload s p wb n := by
  rcases payload_cases s p wb n with ⟨hl, hp⟩ | ⟨hl, hp⟩ <;> rw [hp]
  · rw [payload_ok (s := s.over m rs) (hm.1 ▸ hl)]
    exact congrArg (fun ws => Except.ok (Payload.mk ⟨p, n * wb⟩ ws (p + n * wb))) (hm.wordsAt hl)
  · rw [payload_cut (s := s.over m rs) (hm.1 ▸ hl)]
    rfl

theorem paddingPacket_over {win : Window} (hw : win.offset + win.length ≤ s.buf.len) (n : Nat) :
    paddingPacket (s.over m rs) win n = paddingPacket s win n := by
  have hbytes : win.bytes (s.over m rs).buf = win.bytes s.buf := hm.slice hw
  rw [paddingPacket, paddingPacket, hbytes]
  rfl

theorem build_over (wb : Nat) (e : RegEntry) (n : Nat) {pl : Payload}
    (hw : pl.window.offset + pl.window.length ≤ s.buf.len) : build (s.over m rs) wb e n pl = build s wb e n pl := by
  unfold build
  rw [paddingPacket_over hm rs hw]
  rfl

theorem longBuild_over (e : RegEntry) (n : Nat) {pl : Payload} (hw : pl.window.offset + pl.window.length ≤ s.buf.len) :
    longBuild (s.over m rs) e n pl = longBuild s e n pl := by
  unfold longBuild
  rw [paddingPacket_over hm rs hw]

theorem writeBody_over (wb : Nat) (e : RegEntry) (n : Nat) {pl : Payload}
    (hw : pl.window.offset + pl.window.length ≤ s.buf.len) :
    writeBody (s.over m rs) wb e n pl = (writeBody s wb e n pl).map (Yield.over m rs) := by
  unfold writeBody
  rw [build_over hm rs wb e n hw]
  split
  · cases build s wb e n pl <;> rfl
  · rfl

theorem type1Write_over (wb : Nat) (reg : RegId) (n : Nat) :
    type1Write (s.over m rs) wb reg n = (type1Write s wb reg n).map (Yield.over m rs) := by
  unfold type1Write
  rw [← inMode_over]
  congr 1
  rcases payload_cases s (s.position + wb) wb n with ⟨hl, hp⟩ | ⟨-, hp⟩ <;>
    rw [show (s.over m rs).position = s.position from rfl, payload_over hm, hp]
  · rw [show (s.over m rs).lookupReg reg = s.lookupReg reg from rfl]
    cases s.lookupReg reg with
    | none => rfl
    | some e => exact writeBody_over hm rs wb e n hl
  · rfl

theorem autoCheck_over {y : Yield} :
    autoCheck (s.over m rs) (y.over m rs) = (autoCheck s y).map (Yield.over m rs) := by
  have hread : readWord (s.over m rs).buf (y.over m rs).after.position 4 = readWord s.buf y.after.position 4 :=
    hm.readWord _ _
  unfold autoCheck
  rw [hread]
  cases readWord s.buf y.after.position 4 <;> rfl

theorem longWrite_over (wb : Nat) (reg : RegId) (n p : Nat) :
    longWrite (s.over m rs) wb reg n p = (longWrite s wb reg n p).map (Yield.over m rs) := by
  unfold longWrite
  rcases payload_cases s p wb n with ⟨hl, hp⟩ | ⟨-, hp⟩ <;> rw [payload_over hm, hp]
  · rw [show (s.over m rs).lookupReg reg = s.lookupReg reg from rfl]
    cases s.lookupReg reg with
    | none => rfl
    | some e =>
      dsimp only
      split
      · rw [longBuild_over hm rs e n hl]
        cases longBuild s e n ⟨⟨p, n * wb⟩, wordsAt s.buf p wb n, p + n * wb⟩ with
        | error stop => rfl
        | ok pkt =>
          dsimp only
          rw [show (s.over m rs).autoCrc = s.autoCrc from rfl, longYield_over, autoCheck_over hm]
          split <;> rfl
      · rfl
  · rfl

theorem type2Write_over (n : Nat) : type2Write (s.over m rs) n = (type2Write s n).map (Yield.over m rs) := by
  unfold type2Write
  rw [← inMode_over]
  congr 1
  rw [show (s.over m rs).lastRegister = s.lastRegister from rfl]
  cases s.lastRegister with
  | none => rfl
  | some reg => exact longWrite_over hm rs 4 reg n (s.position + 4)

theorem longWrite16_over (field : RegId) :
    longWrite16 (s.over m rs) field = (longWrite16 s field).map (Yield.over m rs) := by
  have hread : readWord (s.over m rs).buf ((s.over m rs).position + 2) 4 = readWord s.buf (s.position + 2) 4 :=
    hm.readWord _ _
  unfold longWrite16
  rw [← inMode_over]
  congr 1
  rw [show lw16Register (s.over m rs) field = lw16Register s field from rfl, hread]
  cases lw16Register s field with
  | error stop => rfl
  | ok reg =>
    cases readWord s.buf (s.position + 2) 4 with
    | none => rfl
    | some v => exact longWrite_over hm rs 2 reg v.1.toNat v.2

theorem bugFdriWrite_over : bugFdriWrite (s.over m rs) = (bugFdriWrite s).map (Yield.over m rs) := by
  have hrun : bugFdriRun (s.over m rs) = bugFdriRun s := by
    have hlen : (s.over m rs).buf.len = s.buf.len := hm.1
    unfold bugFdriRun
    rw [hlen]
    exact congrArg (1 + ·) (hm.zeroWords (s.position + 4) s.buf.len)
  unfold bugFdriWrite
  rw [← inMode_over]
  congr 1
  rw [hrun, show (s.over m rs).bugFdri = s.bugFdri from rfl]
  split <;> rfl

theorem widthDetectPair_over : widthDetectPair (s.over m rs) = (widthDetectPair s).map (Yield.over m rs) := by
  have hread : readWord (s.over m rs).buf ((s.over m rs).position + 4) 4 = readWord s.buf (s.position + 4) 4 :=
    hm.readWord _ _
  unfold widthDetectPair
  rw [← inMode_over]
  congr 1
  rw [hread, show (s.over m rs).widthDetect = s.widthDetect from rfl]
  split
  · cases readWord s.buf (s.position + 4) 4 with
    | none => rfl
    | some v =>
      dsimp only
      split <;> rfl
  · rfl

theorem syncWord16_over : syncWord16 (s.over m rs) = (syncWord16 s).map (Yield.over m rs) := by
  have hread : readWord (s.over m rs).buf ((s.over m rs).position + 2) 2 = readWord s.buf (s.position + 2) 2 :=
    hm.readWord _ _
  unfold syncWord16
  rw [← inMode_over]
  congr 1
  rw [hread, show (s.over m rs).sync16Verify = s.sync16Verify from rfl]
  split
  · cases readWord s.buf (s.position + 2) 2 with
    | none => rfl
    | some v =>
      dsimp only
      split <;> rfl
  · rfl

/-- A plain instruction is the same procedure on the moved session. -/
theorem plain_over {wb : Nat} {g : Instr} (h : Plain wb g) :
    ∃ r, exec g s = settle s r ∧
      ∀ rs, exec g (s.over m rs) = settle (s.over m rs) (r.map (Yield.over m rs)) := by
  have framed : ∀ (b : Bool) (pkt : Packet) (n : Nat) (b' : Bool) (rs : List StepResult),
      settle (s.over m rs) (inMode b (s.over m rs) (.ok (framing (s.over m rs) pkt n b'))) =
        settle (s.over m rs) ((inMode b s (.ok (framing s pkt n b'))).map (Yield.over m rs)) := by
    intro b pkt n b' rs
    rw [← inMode_over]
    rfl
  cases h with
  | dummy32 | dummy16 | sync32 | nop32 | nop16 => exact ⟨_, rfl, framed _ _ _ _⟩
  | widthDetect => exact ⟨_, rfl, fun rs => congrArg (settle (s.over m rs)) (widthDetectPair_over hm rs)⟩
  | sync16 => exact ⟨_, rfl, fun rs => congrArg (settle (s.over m rs)) (syncWord16_over hm rs)⟩
  | bugFdri => exact ⟨_, rfl, fun rs => congrArg (settle (s.over m rs)) (bugFdriWrite_over hm rs)⟩
  | t1write32 | t1write16 => exact ⟨_, rfl, fun rs => congrArg (settle (s.over m rs)) (type1Write_over hm rs _ _ _)⟩
  | t2write wc => exact ⟨_, rfl, fun rs => congrArg (settle (s.over m rs)) (type2Write_over hm rs _)⟩
  | lwrite low => exact ⟨_, rfl, fun rs => congrArg (settle (s.over m rs)) (longWrite16_over hm rs _)⟩

end

/-- What settling adds to a stream, it adds to that of the moved session. -/
theorem settle_over {s t : State} (m : Memory) {r : Except Stop Yield} (h : settle s r = .next t) :
    ∃ out, t.results = s.results ++ out ∧
      ∀ rs, settle (s.over m rs) (r.map (Yield.over m rs)) = .next (t.over m (rs ++ out)) := by
  rcases settle_next h with ⟨y, rfl, rfl⟩ | ⟨k, a, rfl, rfl⟩
  · exact ⟨_, rfl, fun _ => rfl⟩
  · exact ⟨_, rfl, fun _ => rfl⟩

/-! ### The step of a moved session -/

theorem step_at_end {s : State} (hrun : s.status = .running) (hend : s.position = s.buf.len) : step s = .next s.finish := by
  unfold step fetch
  rw [if_pos hrun, if_pos hend]

theorem step_cut {s : State} (hrun : s.status = .running) (hne : s.position ≠ s.buf.len)
    (hcut : s.buf.len - s.position < s.kind.wordBytes) : step s = .next (s.fail .truncated s.position) := by
  unfold step fetch
  rw [if_pos hrun, if_neg hne, if_pos hcut]

theorem step_refused {s : State} (hrun : s.status = .running) (hlen : s.kind.wordBytes ≤ s.buf.len - s.position) {r : Reject}
    (hr : decode s.cfg s.kind .header s.fetchBytes = .error r) : step s = .next (s.fail .unexpectedWord s.position) := by
  have hpos := DeviceKind.wordBytes_pos s.kind
  unfold step fetch
  rw [if_pos hrun, if_neg (by omega), if_neg (by omega), hr]

theorem step_decoded {s : State} (hrun : s.status = .running) (hlen : s.kind.wordBytes ≤ s.buf.len - s.position) {i : Instr}
    (hi : decode s.cfg s.kind .header s.fetchBytes = .ok i) : step s = exec i s := by
  have hpos := DeviceKind.wordBytes_pos s.kind
  exact stepRunsTheDecodedInstruction s i hrun (by omega) hi

/-- THE STEP OF A MOVED SESSION: over a buffer of the same bytes it takes the same step, and adds the same results to its own. -/
theorem step_over {s t : State} {m : Memory} (hm : SameBytes m s.buf) (h : step s = .next t) :
    ∃ out, t.results = s.results ++ out ∧ ∀ rs, step (s.over m rs) = .next (t.over m (rs ++ out)) := by
  have hlen : m.len = s.buf.len := hm.1
  rcases step_cases s with ⟨hr, hs⟩ | ⟨hr, hend, hs⟩ | ⟨hr, hne, hcut, hs⟩ | ⟨hr, hword, ⟨r, hd⟩, hs⟩ |
    ⟨hr, hword, i, hd, hs⟩ <;> rw [hs] at h
  · cases h
    exact ⟨[], (List.append_nil _).symm, fun rs => by rw [List.append_nil]; exact step_stopped hr⟩
  · cases h
    exact ⟨_, rfl, fun rs => step_at_end (s := s.over m rs) hr (hend.trans hlen.symm)⟩
  · cases h
    exact ⟨_, rfl, fun rs => step_cut (s := s.over m rs) hr (hlen ▸ hne) (hlen ▸ hcut)⟩
  · cases h
    refine ⟨_, rfl, fun rs => step_refused (s := s.over m rs) (r := r) hr (hlen ▸ hword) ?_⟩
    rw [fetchBytes_over hm]
    exact hd
  · obtain ⟨g, hg, hplain⟩ := exec_decoded hd
    obtain ⟨r, hsettle, hover⟩ := plain_over hm hg
    rw [hplain s rfl rfl rfl, hsettle] at h
    obtain ⟨out, hout, hsettled⟩ := settle_over m h
    refine ⟨out, hout, fun rs => ?_⟩
    have hbytes := fetchBytes_over hm rs
    calc step (s.over m rs) = exec i (s.over m rs) :=
          step_decoded (s := s.over m rs) hr (hlen ▸ hword) (by rw [hbytes]; exact hd)
      _ = exec g (s.over m rs) := hplain _ rfl rfl hbytes
      _ = settle (s.over m rs) (r.map (Yield.over m rs)) := hover rs
      _ = .next (t.over m (rs ++ out)) := hsettled rs

/-- Settles O7: the session moved to the other buffer, with its own results. -/
theorem stepReadsOnlyBytesOfTheBuffer : Obligations.StepReadsOnlyBytesOfTheBuffer := by
  intro s t m hlen hbytes h
  have hm : SameBytes m s.buf := ⟨hlen, fun a ha => Memory.get_eq_of_byte_eq hlen ha (hbytes a ha)⟩
  obtain ⟨out, hout, hstep⟩ := step_over hm h
  have hmoved := hstep s.results
  rwa [← hout] at hmoved

/-- Settles O60: the session moved to other results, over its own buffer. -/
theorem resultsAreOnlyOutput : Obligations.ResultsAreOnlyOutput := by
  intro s t h
  obtain ⟨out, hout, hstep⟩ := step_over (.refl s.buf) h
  refine ⟨out, hout, fun rs => ?_⟩
  have hbuf : t.over s.buf (rs ++ out) = { t with results := rs ++ out } := by rw [← (step_keepsLaunch h).2.2]; rfl
  exact (hstep rs).trans (congrArg Host.Outcome.next hbuf)

end Sys2Proof.Machine

/-!
Framing with flags and confirmation words (spec/41_framing.md R92, R94, R96).
-/

namespace Sys2Proof.Machine

theorem exec_sync16 (s : State) : exec .sync16 s = settle s (syncWord16 s) := rfl

theorem exec_nop32 (s : State) : exec .nop32 s = settle s (inMode true s (.ok (framing s .nop 4 true))) := rfl

theorem exec_nop16 (s : State) : exec .nop16 s = settle s (inMode true s (.ok (framing s .nop 2 true))) := rfl

theorem readWord_ok {m : Memory} {pos n : Nat} (h : pos + n ≤ m.len) : readWord m pos n = some (m.read pos n, pos + n) :=
  readWord_eq_some.mpr ⟨h, rfl, rfl⟩

theorem readWord_cut {m : Memory} {pos n : Nat} (h : m.len < pos + n) : readWord m pos n = none :=
  readWord_eq_none.mpr h

/-- Settles O21: the branches of `SyncWord16` in Unsynced mode. -/
theorem syncWord16EntersSyncedMode : Obligations.SyncWord16EntersSyncedMode := by
  intro s hs
  refine ⟨fun hv => ?_, fun hv hl => ?_, fun hv hl hword => ?_, fun hv hl hword => ?_⟩
  · rw [exec_sync16, syncWord16, inMode_right hs, if_neg (by simp [hv])]
    rfl
  · rw [exec_sync16, syncWord16, inMode_right hs, if_pos hv, readWord_cut (by omega)]
    rfl
  · rw [exec_sync16, syncWord16, inMode_right hs, if_pos hv, readWord_ok (by omega)]
    dsimp only
    rw [if_pos hword]
    rfl
  · rw [exec_sync16, syncWord16, inMode_right hs, if_pos hv, readWord_ok (by omega)]
    dsimp only
    rw [if_neg hword]
    rfl

/-- Settles O22: the branches of `WidthDetect` in Unsynced mode. -/
theorem widthDetectNeedsItsConfirmation : Obligations.WidthDetectNeedsItsConfirmation := by
  intro s hs
  refine ⟨fun hv => ?_, fun hv hl => ?_, fun hv hl hword => ?_, fun hv hl hword => ?_⟩
  · rw [exec_widthDetect, widthDetectPair_off hv]
    rfl
  · rw [exec_widthDetect, widthDetectPair, inMode_right hs, if_pos hv, readWord_cut (by omega)]
    rfl
  · rw [exec_widthDetect, widthDetectPair, inMode_right hs, if_pos hv, readWord_ok (by omega)]
    dsimp only
    rw [if_pos hword]
    rfl
  · rw [exec_widthDetect, widthDetectPair, inMode_right hs, if_pos hv, readWord_ok (by omega)]
    dsimp only
    rw [if_neg hword]
    rfl

/-- Settles O23: the framing procedure in Synced mode, the mode test in Unsynced mode. -/
theorem nopMovesOnlyTheCursor : Obligations.NopMovesOnlyTheCursor := by
  refine ⟨fun s hs => ⟨?_, ?_⟩, fun s hs => ⟨?_, ?_⟩⟩
  · rw [exec_nop32, settle_framing hs]
  · rw [exec_nop16, settle_framing hs]
  · exact exec_of_wrong_mode rfl (by simp [hs, Instr.synced])
  · exact exec_of_wrong_mode rfl (by simp [hs, Instr.synced])

end Sys2Proof.Machine

/-!
The Type-1 register writes (spec/42_register_writes.md R97 to R144): one rule per branch of `Build` and of `Type1Write`, the
procedure in every configuration, and the `WRITE_` and `CMD_` rows as instances of it.
-/

namespace Sys2Proof.Machine

/-! ### Values, feeding and counts in the statements' terms -/

/-- `Value(ws)` is the value the statements write out (R99). -/
theorem valueOf_wordsAt (m : Memory) {wb : Nat} (hw : wb = 4 ∨ wb = 2) (n p : Nat) :
    valueOf wb (wordsAt m p wb n) = writtenValue m wb n p := by
  unfold writtenValue
  rcases valueOf_words m wb n p with ⟨rfl, h⟩ | ⟨rfl, h⟩ | ⟨h1, h2, h⟩ <;> rw [h]
  · rcases hw with rfl | rfl <;> rfl
  · rcases hw with rfl | rfl <;> rfl
  · rw [if_neg h1, if_neg h2]

theorem absorb_eq_fedLong (s : State) (e : RegEntry) (ws : List Word) : s.absorb e ws = s.fedLong e e.id ws := by
  unfold State.fedLong State.fed
  by_cases ht : e.tag = .crc
  · rw [if_pos ht, absorb_exempt (.inl ht)]
  · rw [if_neg ht]
    by_cases hd : e.id ∈ s.debugExempt
    · rw [if_pos hd, absorb_exempt (.inr hd)]
    · rw [if_neg hd, absorb_fed ht hd]

theorem fedLong_crc {s : State} {e : RegEntry} (h : e.tag = .crc) (reg : RegId) (ws : List Word) :
    s.fedLong e reg ws = s.checksum := if_pos h

theorem fedLong_other {s : State} {e : RegEntry} (h : e.tag ≠ .crc) (reg : RegId) (ws : List Word) :
    s.fedLong e reg ws = s.fed reg ws := if_neg h

theorem comparisons_crc {s : State} {e : RegEntry} (h : e.tag = .crc) (p : Nat) (v : RegValue) :
    s.comparisons e p v = [crcCheck p v s.checksum] := if_pos h

theorem comparisons_other {s : State} {e : RegEntry} (h : e.tag ≠ .crc) (p : Nat) (v : RegValue) :
    s.comparisons e p v = [] := if_neg h

theorem cardAdmits_iff (card : Card) (n : Nat) : cardAdmits card n = true ↔ ¬ wrongCount card n := by
  cases card <;> simp [cardAdmits, wrongCount]

theorem wordsAt_head (m : Memory) (p wb : Nat) {n : Nat} (h : n ≠ 0) : ∃ rest, wordsAt m p wb n = m.read p wb :: rest := by
  obtain ⟨k, rfl⟩ := Nat.exists_eq_succ_of_ne_zero h
  exact ⟨_, by rw [wordsAt, List.range_succ_eq_map, List.map_cons, Nat.zero_mul, Nat.add_zero]⟩

/-! ### The branches of Build (R98) -/

theorem build_cmd {s : State} {wb n : Nat} {e : RegEntry} {pl : Payload} (ht : e.tag = .cmd) {code : Word}
    {rest : List Word} (hws : pl.words = code :: rest) : build s wb e n pl = commandDecode s code := by
  rw [build, if_pos ht, hws]

theorem build_cmd_empty {s : State} {wb n : Nat} {e : RegEntry} {pl : Payload} (ht : e.tag = .cmd)
    (hws : pl.words = []) : build s wb e n pl = .error (.raise .unexpectedWordCount s.position) := by
  rw [build, if_pos ht, hws]

theorem build_mfwr {s : State} {wb n : Nat} {e : RegEntry} {pl : Payload} (ht : e.tag = .mfwr) :
    build s wb e n pl = paddingPacket s pl.window n := by
  simp [build, ht]

theorem build_fdri {s : State} {wb n : Nat} {e : RegEntry} {pl : Payload} (ht : e.tag = .fdri) :
    build s wb e n pl = .ok (.fdri pl.window) := by
  simp [build, ht]

/-- A register whose data are no command, no padding and no configuration data. -/
def PlainTag (t : Tag) : Prop := t ≠ .cmd ∧ t ≠ .mfwr ∧ t ≠ .fdri

theorem build_window {s : State} {wb n : Nat} {e : RegEntry} {pl : Payload} (ht : PlainTag e.tag) (hv : e.card = .var) :
    build s wb e n pl = .ok (.window e.tag pl.window) := by
  obtain ⟨h1, h2, h3⟩ := ht
  rw [build, if_neg h1, if_neg h2, if_neg h3, if_pos hv]

theorem build_crc {s : State} {wb n : Nat} {e : RegEntry} {pl : Payload} (ht : e.tag = .crc) (hv : e.card ≠ .var) :
    build s wb e n pl = .ok (.crc (valueOf wb pl.words)) := by
  simp [build, ht, hv]

theorem build_value {s : State} {wb n : Nat} {e : RegEntry} {pl : Payload} (ht : PlainTag e.tag) (hv : e.card ≠ .var)
    (hc : e.tag ≠ .crc) : build s wb e n pl = .ok (.value e.tag (valueOf wb pl.words)) := by
  obtain ⟨h1, h2, h3⟩ := ht
  rw [build, if_neg h1, if_neg h2, if_neg h3, if_neg hv, if_neg hc]

theorem commandDecode_known {s : State} {code : Word} {c : Command} (h : s.lookupCmd code = some c) :
    commandDecode s code = .ok (.command c) := by
  rw [commandDecode, h]

theorem commandDecode_unknown {s : State} {code : Word} (h : s.lookupCmd code = none) :
    commandDecode s code = .error (.raise .unknownCommand s.position) := by
  rw [commandDecode, h]

/-- The padding check over a range of bytes, in the statements' terms (R105). -/
theorem paddingPacket_zero {s : State} {p len : Nat} (h : zeroBytes s.buf p (p + len)) (n : Nat) :
    paddingPacket s ⟨p, len⟩ n = .ok (.mfwr n) := by
  rcases paddingPacket_cases s p len n with ⟨-, hp⟩ | ⟨hne, -⟩
  · exact hp
  · exact absurd h hne

theorem paddingPacket_nonzero {s : State} {p len : Nat} (h : ¬ zeroBytes s.buf p (p + len)) (n : Nat) :
    paddingPacket s ⟨p, len⟩ n = .error (.raise .malformedPadding s.position) := by
  rcases paddingPacket_cases s p len n with ⟨hz, -⟩ | ⟨-, hp⟩
  · exact absurd hz h
  · exact hp

/-! ### What a write leaves once its data are read -/

section
variable {s : State} {wb n : Nat} {e : RegEntry}

/-- The rest of a Type-1 write of `n` words after the header, settled. -/
def settledBody (s : State) (wb : Nat) (e : RegEntry) (n : Nat) : Host.Outcome State Fault Refusal :=
  settle s (writeBody s wb e n (writePayload s wb n))

theorem settledBody_wrongCount (h : wrongCount e.card n) :
    settledBody s wb e n = .next (s.errored .unexpectedWordCount s.position) := by
  have hc : ¬ cardAdmits e.card n = true := fun hc => (cardAdmits_iff _ _).mp hc h
  rw [settledBody, writeBody, if_neg hc]
  rfl

theorem settledBody_refused (hn : ¬ wrongCount e.card n) {k : ErrorKind} {a : Nat}
    (hb : build s wb e n (writePayload s wb n) = .error (.raise k a)) : settledBody s wb e n = .next (s.errored k a) := by
  rw [settledBody, writeBody, if_pos ((cardAdmits_iff _ _).mpr hn), hb]
  rfl

/-- A packet that was built is committed with its event, and its words are fed (R97). -/
theorem settledBody_built (hw : wb = 4 ∨ wb = 2) (hn : ¬ wrongCount e.card n) {pkt : Packet}
    (hb : build s wb e n (writePayload s wb n) = .ok pkt) :
    settledBody s wb e n =
      .next (s.wrote e.id (wb + n * wb)
        (if pkt = .command .rcrc then 0 else s.fedLong e e.id (wordsAt s.buf (s.position + wb) wb n)) pkt
        (s.comparisons e (s.position + wb) (writtenValue s.buf wb n (s.position + wb)))) := by
  have hevents : writeEvents s wb e (writePayload s wb n) =
      s.comparisons e (s.position + wb) (writtenValue s.buf wb n (s.position + wb)) := by
    rw [← valueOf_wordsAt s.buf hw]
    rfl
  rw [settledBody, writeBody, if_pos ((cardAdmits_iff _ _).mpr hn), hb]
  dsimp only
  rw [settle_ok, State.commit, finishWrite, hevents, State.wrote, absorb_eq_fedLong, ← Nat.add_assoc]
  rfl

/-- The same for a packet that is no command. -/
theorem settledBody_packet (hw : wb = 4 ∨ wb = 2) (hn : ¬ wrongCount e.card n) {pkt : Packet}
    (hb : build s wb e n (writePayload s wb n) = .ok pkt) (hpkt : pkt ≠ .command .rcrc) :
    settledBody s wb e n =
      .next (s.wrote e.id (wb + n * wb) (s.fedLong e e.id (wordsAt s.buf (s.position + wb) wb n)) pkt
        (s.comparisons e (s.position + wb) (writtenValue s.buf wb n (s.position + wb)))) := by
  rw [settledBody_built hw hn hb, if_neg hpkt]

end

section
variable {s : State} {wb n : Nat} {e : RegEntry} (hw : wb = 4 ∨ wb = 2) (hn : ¬ wrongCount e.card n)
include hw hn

theorem settledBody_command (ht : e.tag = .cmd) (h0 : n ≠ 0) {c : Command}
    (hc : s.lookupCmd (s.buf.read (s.position + wb) wb) = some c) :
    settledBody s wb e n =
      .next (s.wrote e.id (wb + n * wb)
        (if c = .rcrc then 0 else s.fedLong e e.id (wordsAt s.buf (s.position + wb) wb n)) (.command c) []) := by
  obtain ⟨rest, hws⟩ := wordsAt_head s.buf (s.position + wb) wb h0
  have hb : build s wb e n (writePayload s wb n) = .ok (.command c) :=
    (build_cmd ht (show (writePayload s wb n).words = _ from hws)).trans (commandDecode_known hc)
  rw [settledBody_built hw hn hb, comparisons_other (by simp [ht])]
  simp only [Packet.command.injEq]

theorem settledBody_mfwr (ht : e.tag = .mfwr) (hz : zeroBytes s.buf (s.position + wb) (s.position + wb + n * wb)) :
    settledBody s wb e n =
      .next (s.wrote e.id (wb + n * wb) (s.fedLong e e.id (wordsAt s.buf (s.position + wb) wb n)) (.mfwr n) []) := by
  have hb : build s wb e n (writePayload s wb n) = .ok (.mfwr n) := (build_mfwr ht).trans (paddingPacket_zero hz n)
  rw [settledBody_packet hw hn hb nofun, comparisons_other (by simp [ht])]

theorem settledBody_fdri (ht : e.tag = .fdri) :
    settledBody s wb e n =
      .next (s.wrote e.id (wb + n * wb) (s.fedLong e e.id (wordsAt s.buf (s.position + wb) wb n))
        (.fdri ⟨s.position + wb, n * wb⟩) []) := by
  rw [settledBody_packet hw hn (build_fdri ht) nofun, comparisons_other (by simp [ht])]
  rfl

theorem settledBody_window (ht : PlainTag e.tag) (hv : e.card = .var) :
    settledBody s wb e n =
      .next (s.wrote e.id (wb + n * wb) (s.fedLong e e.id (wordsAt s.buf (s.position + wb) wb n))
        (.window e.tag ⟨s.position + wb, n * wb⟩)
        (s.comparisons e (s.position + wb) (writtenValue s.buf wb n (s.position + wb)))) :=
  settledBody_packet hw hn (build_window ht hv) nofun

theorem settledBody_crc (ht : e.tag = .crc) (hv : e.card ≠ .var) :
    settledBody s wb e n =
      .next (s.wrote e.id (wb + n * wb) (s.fedLong e e.id (wordsAt s.buf (s.position + wb) wb n))
        (.crc (writtenValue s.buf wb n (s.position + wb)))
        (s.comparisons e (s.position + wb) (writtenValue s.buf wb n (s.position + wb)))) := by
  have hb : build s wb e n (writePayload s wb n) = .ok (.crc (writtenValue s.buf wb n (s.position + wb))) :=
    (build_crc ht hv).trans (congrArg (fun v => Except.ok (Packet.crc v)) (valueOf_wordsAt s.buf hw n (s.position + wb)))
  exact settledBody_packet hw hn hb nofun

theorem settledBody_value (ht : PlainTag e.tag) (hv : e.card ≠ .var) (hc : e.tag ≠ .crc) :
    settledBody s wb e n =
      .next (s.wrote e.id (wb + n * wb) (s.fedLong e e.id (wordsAt s.buf (s.position + wb) wb n))
        (.value e.tag (writtenValue s.buf wb n (s.position + wb))) []) := by
  have hb : build s wb e n (writePayload s wb n) = .ok (.value e.tag (writtenValue s.buf wb n (s.position + wb))) :=
    (build_value ht hv hc).trans
      (congrArg (fun v => Except.ok (Packet.value e.tag v)) (valueOf_wordsAt s.buf hw n (s.position + wb)))
  rw [settledBody_packet hw hn hb nofun, comparisons_other hc]

end

theorem settledBody_mfwr_nonzero {s : State} {wb n : Nat} {e : RegEntry} (hn : ¬ wrongCount e.card n) (ht : e.tag = .mfwr)
    (hz : ¬ zeroBytes s.buf (s.position + wb) (s.position + wb + n * wb)) :
    settledBody s wb e n = .next (s.errored .malformedPadding s.position) :=
  settledBody_refused hn ((build_mfwr ht).trans (paddingPacket_nonzero hz n))

theorem settledBody_unknownCommand {s : State} {wb n : Nat} {e : RegEntry} (hn : ¬ wrongCount e.card n)
    (ht : e.tag = .cmd) (h0 : n ≠ 0) (hc : s.lookupCmd (s.buf.read (s.position + wb) wb) = none) :
    settledBody s wb e n = .next (s.errored .unknownCommand s.position) := by
  obtain ⟨rest, hws⟩ := wordsAt_head s.buf (s.position + wb) wb h0
  exact settledBody_refused hn
    ((build_cmd ht (show (writePayload s wb n).words = _ from hws)).trans (commandDecode_unknown hc))

theorem settledBody_noCommand {s : State} {wb : Nat} {e : RegEntry} (hn : ¬ wrongCount e.card 0) (ht : e.tag = .cmd) :
    settledBody s wb e 0 = .next (s.errored .unexpectedWordCount s.position) :=
  settledBody_refused hn (build_cmd_empty ht rfl)

/-! ### The procedure of R97 -/

section
variable {s : State} (hs : s.synced = true) {wb n : Nat}
include hs

theorem type1Write_cut (hl : s.buf.len < s.position + wb + n * wb) (reg : RegId) :
    settle s (type1Write s wb reg n) = .next (s.errored .truncated s.position) := by
  rw [type1Write, inMode_right hs, payload_cut hl]
  rfl

theorem type1Write_unknown (hl : s.position + wb + n * wb ≤ s.buf.len) {reg : RegId} (he : s.lookupReg reg = none) :
    settle s (type1Write s wb reg n) = .next (s.errored .unknownRegister s.position) := by
  rw [type1Write, inMode_right hs, payload_ok hl, he]
  rfl

theorem type1Write_known (hl : s.position + wb + n * wb ≤ s.buf.len) {reg : RegId} {e : RegEntry}
    (he : s.lookupReg reg = some e) : settle s (type1Write s wb reg n) = settledBody s wb e n := by
  rw [type1Write, inMode_right hs, payload_ok hl, he]
  rfl

theorem rowWrite_cut (hl : s.buf.len < s.position + wb + n * wb) (e : RegEntry) :
    settle s (rowWrite s wb e n) = .next (s.errored .truncated s.position) := by
  rw [rowWrite, inMode_right hs, payload_cut hl]
  rfl

theorem rowWrite_read (hl : s.position + wb + n * wb ≤ s.buf.len) (e : RegEntry) :
    settle s (rowWrite s wb e n) = settledBody s wb e n := by
  rw [rowWrite, inMode_right hs, payload_ok hl]
  rfl

end

/-- The procedure of R97 and R98 for any instruction that is a generic Type-1 write. -/
theorem type1Procedure {wb : Nat} (hw : wb = 4 ∨ wb = 2) {i : Instr} {reg : RegId} {n : Nat}
    (hexec : ∀ s, exec i s = settle s (type1Write s wb reg n)) : Type1Procedure wb i reg n := by
  intro s hs p q bytes
  rw [hexec]
  refine ⟨fun hl => type1Write_cut hs hl reg, fun hl he => type1Write_unknown hs hl he, ?_⟩
  intro e hl he sum code v
  obtain rfl : e.id = reg := (findReg_eq_some he).2
  rw [type1Write_known hs hl he]
  refine ⟨settledBody_wrongCount, fun hn => ⟨?_, ?_, ?_, ?_, ?_, ?_, fun h1 h2 h3 => ⟨?_, ?_, ?_⟩⟩⟩
  · rintro ht rfl
    exact settledBody_noCommand hn ht
  · exact fun ht h0 hc => settledBody_unknownCommand hn ht h0 hc
  · exact fun ht h0 c hc => settledBody_command hw hn ht h0 hc
  · exact fun ht hz => settledBody_mfwr_nonzero hn ht hz
  · exact fun ht hz => settledBody_mfwr hw hn ht hz
  · exact fun ht => settledBody_fdri hw hn ht
  · exact fun hv => settledBody_window hw hn ⟨h1, h2, h3⟩ hv
  · exact fun hv ht => settledBody_crc hw hn ht hv
  · exact fun hv ht => settledBody_value hw hn ⟨h1, h2, h3⟩ hv ht

/-- Settles O24: both generic headers are the procedure of their width. -/
theorem type1WriteFollowsItsProcedure : Obligations.Type1WriteFollowsItsProcedure :=
  ⟨fun reg ignored wc => type1Procedure (.inl rfl) (exec_t1write32 reg ignored wc),
    fun reg wc => type1Procedure (.inr rfl) (exec_t1write16 reg wc)⟩

end Sys2Proof.Machine

/-!
The `WRITE_` and `CMD_` rows (spec/42_register_writes.md R103 to R144, spec/43_commands.md R145 to R166), each by the rules of
its kind of register.
-/

namespace Sys2Proof.Machine

/-! ### A row is its entry's write -/

/-- The word count a cardinality fixes. -/
def Card.need : Card → Option Nat
  | .one => some 1
  | .two => some 2
  | .var => none

theorem wrongCount_iff_need (card : Card) (n : Nat) : wrongCount card n ↔ ∃ c, Card.need card = some c ∧ n ≠ c := by
  cases card <;> simp [wrongCount, Card.need]

/-- A `WRITE_` row runs the write of its entry. -/
def RunsRow (k : DeviceKind) (i : Instr) (e : RegEntry) (n : Nat) : Prop :=
  ∀ s, exec i s = settle s (rowWrite s k.wordBytes e n)

/-- What a row does before its packet is built is decided by its entry's cardinality. -/
theorem rowOutcome {k : DeviceKind} {i : Instr} {e : RegEntry} {n : Nat} {ok : State → State} (hi : RunsRow k i e n)
    (hok : ∀ s : State, s.kind = k → ¬ wrongCount e.card n → settledBody s k.wordBytes e n = .next (ok s)) :
    RowOutcome k i (Card.need e.card) n ok := by
  intro s hk hs
  rw [hi]
  refine ⟨fun hl => rowWrite_cut hs hl e, fun hl hne => ?_, fun hl hall => ?_⟩
  · rw [rowWrite_read hs hl, settledBody_wrongCount ((wrongCount_iff_need _ _).mpr hne)]
  · have hn : ¬ wrongCount e.card n := fun h => by
      obtain ⟨c, hc, hne⟩ := (wrongCount_iff_need _ _).mp h
      exact hne (hall c hc)
    rw [rowWrite_read hs hl, hok s hk hn]

theorem eq_of_not_wrongCount_one {n : Nat} (h : ¬ wrongCount .one n) : n = 1 := by
  simpa [wrongCount] using h

theorem eq_of_not_wrongCount_two {n : Nat} (h : ¬ wrongCount .two n) : n = 2 := by
  simpa [wrongCount] using h

/-! ### Value rows -/

/-- A tag whose fixed-length writes carry a plain value. -/
def ValueTag (t : Tag) : Prop := t ≠ .cmd ∧ t ≠ .mfwr ∧ t ≠ .fdri ∧ t ≠ .crc

theorem settledBody_valueTag {s : State} {wb n : Nat} {e : RegEntry} (hw : wb = 4 ∨ wb = 2) (hn : ¬ wrongCount e.card n)
    (ht : ValueTag e.tag) (hv : e.card ≠ .var) :
    settledBody s wb e n =
      .next (s.wrote e.id (wb + n * wb) (s.fed e.id (wordsAt s.buf (s.position + wb) wb n))
        (.value e.tag (writtenValue s.buf wb n (s.position + wb))) []) := by
  obtain ⟨hcmd, hmfwr, hfdri, hcrc⟩ := ht
  rw [settledBody_value hw hn ⟨hcmd, hmfwr, hfdri⟩ hv hcrc, fedLong_other hcrc]

theorem wideValueRow {k : DeviceKind} {row : BitVec 2 → BitVec 11 → Instr} {reg : RegId} {tag : Tag}
    (hk : k.wordBytes = 4) (hi : ∀ ignored wc, RunsRow k (row ignored wc) ⟨reg, tag, .one⟩ wc.toNat) (ht : ValueTag tag) :
    WideValueRow k row reg tag := by
  refine fun ignored wc => rowOutcome (hi ignored wc) fun s _ hn => ?_
  rw [settledBody_valueTag (wordBytes_cases k) hn ht nofun, eq_of_not_wrongCount_one hn, hk, wordsAt_one]
  rfl

theorem narrowValueRow {k : DeviceKind} {row : BitVec 5 → Instr} {reg : RegId} {tag : Tag} (hk : k.wordBytes = 2)
    (hi : ∀ wc, RunsRow k (row wc) ⟨reg, tag, .one⟩ wc.toNat) (ht : ValueTag tag) : NarrowValueRow k row reg tag := by
  refine fun wc => rowOutcome (hi wc) fun s _ hn => ?_
  rw [settledBody_valueTag (wordBytes_cases k) hn ht nofun, eq_of_not_wrongCount_one hn, hk, wordsAt_one]
  rfl

theorem narrowPairRow {k : DeviceKind} {row : BitVec 5 → Instr} {reg : RegId} {tag : Tag} (hk : k.wordBytes = 2)
    (hi : ∀ wc, RunsRow k (row wc) ⟨reg, tag, .two⟩ wc.toNat) (ht : ValueTag tag) : NarrowPairRow k row reg tag := by
  refine fun wc => rowOutcome (hi wc) fun s _ hn => ?_
  have hvalue : writtenValue s.buf 2 2 (s.position + 2) =
      .bits32 ((s.buf.read (s.position + 2) 2).setWidth 16 ++ (s.buf.read (s.position + 4) 2).setWidth 16) :=
    congrArg RegValue.bits32 (s.buf.read_four_eq_append (s.position + 2))
  rw [settledBody_valueTag (wordBytes_cases k) hn ht nofun, eq_of_not_wrongCount_two hn, hk, wordsAt_two, hvalue]

/-- Settles O26: each row is a value row of its entry. -/
theorem virtexOriginalValueWrites : Obligations.VirtexOriginalValueWrites := by
  unfold Obligations.VirtexOriginalValueWrites
  and_intros <;> exact wideValueRow rfl (fun _ _ _ => rfl) ⟨nofun, nofun, nofun, nofun⟩

/-- Settles O27: each row is a value row of its entry. -/
theorem virtexIIValueWrites : Obligations.VirtexIIValueWrites := by
  unfold Obligations.VirtexIIValueWrites
  and_intros <;> exact wideValueRow rfl (fun _ _ _ => rfl) ⟨nofun, nofun, nofun, nofun⟩

/-- Settles O28: each row is a value row of its entry. -/
theorem virtexIVPlusValueWrites : Obligations.VirtexIVPlusValueWrites := by
  unfold Obligations.VirtexIVPlusValueWrites
  and_intros <;> exact wideValueRow rfl (fun _ _ _ => rfl) ⟨nofun, nofun, nofun, nofun⟩

/-- Settles O29: each row is a value row of its entry. -/
theorem spartan3AValueWrites : Obligations.Spartan3AValueWrites := by
  unfold Obligations.Spartan3AValueWrites
  and_intros <;> exact narrowValueRow rfl (fun _ _ => rfl) ⟨nofun, nofun, nofun, nofun⟩

/-- Settles O30: each row is a value row of its entry. -/
theorem spartan6ValueWrites : Obligations.Spartan6ValueWrites := by
  unfold Obligations.Spartan6ValueWrites
  and_intros <;> exact narrowValueRow rfl (fun _ _ => rfl) ⟨nofun, nofun, nofun, nofun⟩

/-- Settles O31: both rows are pair rows of the entry of Idcode. -/
theorem idcodePairWrites : Obligations.IdcodePairWrites :=
  ⟨narrowPairRow rfl (fun _ _ => rfl) ⟨nofun, nofun, nofun, nofun⟩,
    narrowPairRow rfl (fun _ _ => rfl) ⟨nofun, nofun, nofun, nofun⟩⟩

/-! ### Crc rows -/

/-- The entry of the Crc register: one word of a 32-bit kind, two of a 16-bit kind (R103). -/
def crcEntry (k : DeviceKind) : RegEntry := ⟨0, .crc, crcCard k⟩

theorem crcCard_ne_var (k : DeviceKind) : crcCard k ≠ .var := by
  cases k <;> nofun

/-- The 4 bytes of a Crc value in either width (R103, R46). -/
theorem crcValue {k : DeviceKind} {n : Nat} (hn : ¬ wrongCount (crcCard k) n) (m : Memory) (p : Nat) :
    n * k.wordBytes = 4 ∧ writtenValue m k.wordBytes n p = .bits32 (m.read p 4) := by
  cases k with
  | virtexOriginal | virtexII | virtexIVPlus => exact (eq_of_not_wrongCount_one hn) ▸ ⟨rfl, rfl⟩
  | spartan3A | spartan6 => exact (eq_of_not_wrongCount_two hn) ▸ ⟨rfl, rfl⟩

theorem crcRow {k : DeviceKind} {i : Instr} {n need : Nat} (hneed : Card.need (crcCard k) = some need)
    (hi : RunsRow k i (crcEntry k) n) : CrcRow k i need n := by
  unfold CrcRow
  rw [← hneed]
  refine rowOutcome hi fun s _ hn => ?_
  obtain ⟨hbytes, hvalue⟩ := crcValue hn s.buf (s.position + k.wordBytes)
  rw [settledBody_crc (wordBytes_cases k) hn rfl (crcCard_ne_var k), fedLong_crc rfl, comparisons_crc rfl, hvalue,
    hbytes, crcCheck_bits32]
  rfl

/-- Settles O32: each row is the Crc row of its kind. -/
theorem crcWritesCompareTheAccumulator : Obligations.CrcWritesCompareTheAccumulator :=
  ⟨fun _ _ => ⟨crcRow rfl fun _ => rfl, crcRow rfl fun _ => rfl, crcRow rfl fun _ => rfl⟩,
    fun _ => ⟨crcRow rfl fun _ => rfl, crcRow rfl fun _ => rfl⟩⟩

/-! ### Variable-length rows -/

theorem fdriRow {k : DeviceKind} {i : Instr} {reg : RegId} {n : Nat} (hi : RunsRow k i ⟨reg, .fdri, .var⟩ n) :
    WindowRow k i reg n .fdri := by
  refine rowOutcome hi fun s _ hn => ?_
  rw [settledBody_fdri (wordBytes_cases k) hn rfl, fedLong_other (e := ⟨reg, .fdri, .var⟩) nofun]

theorem windowRow {k : DeviceKind} {i : Instr} {reg : RegId} {tag : Tag} {n : Nat} (ht : ValueTag tag)
    (hi : RunsRow k i ⟨reg, tag, .var⟩ n) : WindowRow k i reg n (.window tag) := by
  obtain ⟨hcmd, hmfwr, hfdri, hcrc⟩ := ht
  refine rowOutcome hi fun s _ hn => ?_
  rw [settledBody_window (wordBytes_cases k) hn ⟨hcmd, hmfwr, hfdri⟩ rfl, fedLong_other hcrc, comparisons_other hcrc]

/-- Settles O33: each row is the window row of its entry. -/
theorem windowWritesExposeTheirData : Obligations.WindowWritesExposeTheirData :=
  ⟨fun _ _ => ⟨fdriRow fun _ => rfl, fdriRow fun _ => rfl, windowRow ⟨nofun, nofun, nofun, nofun⟩ fun _ => rfl,
      fdriRow fun _ => rfl, windowRow ⟨nofun, nofun, nofun, nofun⟩ fun _ => rfl⟩,
    fun _ => ⟨fdriRow fun _ => rfl, fdriRow fun _ => rfl, windowRow ⟨nofun, nofun, nofun, nofun⟩ fun _ => rfl⟩⟩

theorem paddingRow {k : DeviceKind} {i : Instr} {reg : RegId} {n : Nat} (hi : RunsRow k i ⟨reg, .mfwr, .var⟩ n) :
    PaddingRow k i reg n := by
  intro s hk hs wb p q
  have hn : ¬ wrongCount .var n := by simp [wrongCount]
  rw [hi]
  refine ⟨fun hl => rowWrite_cut hs hl _, fun hl hz => ?_, fun hl hz => ?_⟩
  · rw [rowWrite_read hs hl, settledBody_mfwr_nonzero hn rfl hz]
  · rw [rowWrite_read hs hl, settledBody_mfwr (wordBytes_cases k) hn rfl hz,
      fedLong_other (e := ⟨reg, .mfwr, .var⟩) nofun]

/-- Settles O34: each row is the padding row of its entry. -/
theorem mfwrWritesAreZeroPadding : Obligations.MfwrWritesAreZeroPadding :=
  ⟨fun _ _ => ⟨paddingRow fun _ => rfl, paddingRow fun _ => rfl⟩,
    fun _ => ⟨paddingRow fun _ => rfl, paddingRow fun _ => rfl⟩⟩

/-! ### Command rows -/

theorem commandRegisterRow {k : DeviceKind} {i : Instr} {reg : RegId} {n : Nat} (hi : RunsRow k i ⟨reg, .cmd, .one⟩ n) :
    CommandRegisterRow k i reg n := by
  intro s hk hs wb p code
  have hone : ¬ wrongCount .one 1 := by simp [wrongCount]
  rw [hi]
  refine ⟨fun hl => rowWrite_cut hs hl _, fun hl hne => ?_, ?_, ?_⟩
  · rw [rowWrite_read hs hl, settledBody_wrongCount (.inl ⟨rfl, hne⟩)]
  · rintro hl rfl hc
    rw [rowWrite_read hs hl, settledBody_unknownCommand hone rfl one_ne_zero hc]
  · rintro hl rfl c hc
    rw [rowWrite_read hs hl, settledBody_command (wordBytes_cases k) hone rfl one_ne_zero hc,
      fedLong_other (e := ⟨reg, .cmd, .one⟩) nofun, wordsAt_one, Nat.one_mul, ← Nat.two_mul]

/-- Settles O35: each row is the command-register row of its entry. -/
theorem cmdRegisterWritesDecodeTheirCommand : Obligations.CmdRegisterWritesDecodeTheirCommand :=
  ⟨fun _ _ => ⟨commandRegisterRow fun _ => rfl, commandRegisterRow fun _ => rfl, commandRegisterRow fun _ => rfl⟩,
    fun _ => ⟨commandRegisterRow fun _ => rfl, commandRegisterRow fun _ => rfl⟩⟩

/-- A `CMD_` row commits its command packet with its own code fed (R145, R84). -/
theorem commandRow {k : DeviceKind} {i : Instr} {reg : RegId} {code : Word} {c : Command}
    (hi : ∀ s, exec i s = settle s (commandWrite s k.wordBytes reg code c)) : CommandRow k i reg code c := by
  intro s hk hs
  rw [hi, commandWrite, inMode_right hs]
  refine ⟨fun hl => ?_, fun _ ⟨_, h, _⟩ => (nomatch h), fun hl _ => ?_⟩
  · rw [payload_cut hl]
    rfl
  · have hfed : s.absorb ⟨reg, .cmd, .one⟩ [code] = s.fed reg [code] := absorb_eq_fedLong s _ _
    rw [payload_ok hl]
    dsimp only
    rw [settle_ok, State.commit, finishWrite, State.wrote, hfed, Nat.one_mul, Nat.add_assoc, ← Nat.two_mul]
    simp only [Packet.command.injEq]
    rfl

/-- Settles O36: each row is the command row of its code. -/
theorem virtexOriginalCommands : Obligations.VirtexOriginalCommands := by
  intro ignored
  and_intros <;> exact commandRow fun _ => rfl

/-- Settles O37: each row is the command row of its code. -/
theorem virtexIICommands : Obligations.VirtexIICommands := by
  intro ignored
  and_intros <;> exact commandRow fun _ => rfl

/-- Settles O38: each row is the command row of its code. -/
theorem virtexIVPlusCommands : Obligations.VirtexIVPlusCommands := by
  intro ignored
  and_intros <;> exact commandRow fun _ => rfl

/-- Settles O39: each row is the command row of its code. -/
theorem spartan3ACommands : Obligations.Spartan3ACommands := by
  unfold Obligations.Spartan3ACommands
  and_intros <;> exact commandRow fun _ => rfl

/-- Settles O40: each row is the command row of its code. -/
theorem spartan6Commands : Obligations.Spartan6Commands := by
  unfold Obligations.Spartan6Commands
  and_intros <;> exact commandRow fun _ => rfl

end Sys2Proof.Machine

/-!
The long writes, the BugFdri run and the auto-checksum word (spec/44_long_writes.md R167 to R174): one rule per branch of
`LongWrite`, stated for both widths; Type-2 writes and 16-bit long writes only bring them their register and their length.
-/

namespace Sys2Proof.Machine

/-! ### The branches of LongWrite (R167, R168) -/

/-- A packet of R168 is the one `LongBuild` gives. -/
theorem longBuild_packet {s : State} {e : RegEntry} {wb n p : Nat} {pkt : Packet} (h : LongPacket s.buf e.tag p wb n pkt) :
    longBuild s e n (longPayload s wb n p) = .ok pkt := by
  rcases h with ⟨ht, rfl⟩ | ⟨ht, hz, rfl⟩ | ⟨hfdri, hmfwr, rfl⟩
  · rw [longBuild, if_pos ht]
    rfl
  · rw [longBuild, if_neg (by simp [ht]), if_pos ht]
    exact paddingPacket_zero hz n
  · rw [longBuild, if_neg hfdri, if_neg hmfwr]
    rfl

theorem longBuild_nonzero {s : State} {e : RegEntry} {wb n p : Nat} (ht : e.tag = .mfwr)
    (hz : ¬ zeroBytes s.buf p (p + n * wb)) :
    longBuild s e n (longPayload s wb n p) = .error (.raise .malformedPadding s.position) := by
  rw [longBuild, if_neg (by simp [ht]), if_pos ht]
  exact paddingPacket_nonzero hz n

theorem longWrite_cut {s : State} {wb n p : Nat} (hl : s.buf.len < p + n * wb) (reg : RegId) :
    longWrite s wb reg n p = .error (.raise .truncated s.position) := by
  rw [longWrite, payload_cut hl]

section
variable {s : State} {wb n p : Nat} {reg : RegId} {e : RegEntry} (hl : p + n * wb ≤ s.buf.len)
  (he : s.lookupReg reg = some e)
include hl he

theorem longWrite_fixed (hv : e.card ≠ .var) : longWrite s wb reg n p = .error (.raise .unexpectedWordCount s.position) := by
  rw [longWrite, payload_ok hl, he]
  exact if_neg hv

theorem longWrite_nonzero (hv : e.card = .var) (ht : e.tag = .mfwr) (hz : ¬ zeroBytes s.buf p (p + n * wb)) :
    longWrite s wb reg n p = .error (.raise .malformedPadding s.position) := by
  have hb := longBuild_nonzero ht hz
  rw [longPayload] at hb
  rw [longWrite, payload_ok hl, he]
  dsimp only
  rw [if_pos hv, hb]

theorem longWrite_built (hv : e.card = .var) {pkt : Packet} (hp : LongPacket s.buf e.tag p wb n pkt) :
    longWrite s wb reg n p =
      if s.autoCrc && e.tag == .fdri then autoCheck s (longYield s e (longPayload s wb n p) pkt)
      else .ok (longYield s e (longPayload s wb n p) pkt) := by
  have hb := longBuild_packet hp
  rw [longPayload] at hb ⊢
  rw [longWrite, payload_ok hl, he]
  dsimp only
  rw [if_pos hv, hb]

theorem longWrite_plain (hv : e.card = .var) (ha : ¬ (s.autoCrc = true ∧ e.tag = .fdri)) {pkt : Packet}
    (hp : LongPacket s.buf e.tag p wb n pkt) :
    longWrite s wb reg n p = .ok (longYield s e (longPayload s wb n p) pkt) := by
  rw [longWrite_built hl he hv hp, if_neg (by simpa using ha)]

theorem longWrite_fdri (hv : e.card = .var) (ht : e.tag = .fdri) (ha : s.autoCrc = true) :
    longWrite s wb reg n p = autoCheck s (longYield s e (longPayload s wb n p) (.fdri ⟨p, n * wb⟩)) := by
  rw [longWrite_built hl he hv (.inl ⟨ht, rfl⟩), if_pos (by simp [ha, ht])]

end

/-! ### What they leave (R167, R173) -/

section
variable {s : State} {wb n header : Nat} {reg : RegId} {e : RegEntry} (he : s.lookupReg reg = some e) (hv : e.card = .var)
include he hv

/-- A long write without an auto-checksum word, its data `header` bytes after its header. -/
theorem settle_longWrite_plain (hl : s.position + header + n * wb ≤ s.buf.len) (ha : ¬ (s.autoCrc = true ∧ e.tag = .fdri))
    {pkt : Packet} (hp : LongPacket s.buf e.tag (s.position + header) wb n pkt) :
    settle s (longWrite s wb reg n (s.position + header)) =
      .next (s.wroteLong (header + n * wb) (s.fedLong e reg (wordsAt s.buf (s.position + header) wb n)) pkt []) := by
  obtain rfl : e.id = reg := (findReg_eq_some he).2
  rw [longWrite_plain hl he hv ha hp, settle_ok, ← absorb_eq_fedLong, State.wroteLong, ← Nat.add_assoc]
  rfl

/-- A long write to Fdri with the auto-checksum word after its data. -/
theorem settle_longWrite_checked (ht : e.tag = .fdri) (ha : s.autoCrc = true)
    (hl : s.position + header + n * wb + 4 ≤ s.buf.len) :
    settle s (longWrite s wb reg n (s.position + header)) =
      .next (s.wroteChecked (header + n * wb) (s.fedLong e reg (wordsAt s.buf (s.position + header) wb n))
        (.fdri ⟨s.position + header, n * wb⟩)) := by
  obtain rfl : e.id = reg := (findReg_eq_some he).2
  have hcheck : autoCheck s (longYield s e (longPayload s wb n (s.position + header)) (.fdri ⟨s.position + header, n * wb⟩)) =
      .ok (checked (longYield s e (longPayload s wb n (s.position + header)) (.fdri ⟨s.position + header, n * wb⟩))
        (s.buf.read (s.position + header + n * wb) 4)) :=
    (autoCheck_cases s _).elim And.right fun h => absurd h.1 (Nat.not_lt.mpr hl)
  rw [longWrite_fdri (by omega) he hv ht ha, hcheck, settle_ok, ← absorb_eq_fedLong, State.wroteChecked, State.wroteLong,
    ← crcCheck_bits32, ← Nat.add_assoc, ← Nat.add_assoc]
  rfl

theorem longWrite_check_cut (ht : e.tag = .fdri) (ha : s.autoCrc = true) {p : Nat} (hl : p + n * wb ≤ s.buf.len)
    (hcut : s.buf.len < p + n * wb + 4) : longWrite s wb reg n p = .error (.raise .truncated s.position) := by
  rw [longWrite_fdri hl he hv ht ha]
  exact (autoCheck_cases s _).elim (fun h => absurd h.1 (Nat.not_le.mpr hcut)) And.right

end

theorem wroteChecked_mismatch {s : State} {used : Nat} {sum : BitVec 32} {pkt : Packet}
    (h : s.buf.read (s.position + used) 4 ≠ sum) :
    s.wroteChecked used sum pkt =
      s.wroteLong (used + 4) sum pkt
        [⟨s.position + used, .bits32 (s.buf.read (s.position + used) 4), sum, false⟩] := by
  rw [State.wroteChecked, if_neg h, beq_false_of_ne h]

/-! ### Where their register and their length come from (R170, R172) -/

theorem exec_t2write (wc : BitVec 27) (s : State) : exec (.t2write wc) s = settle s (type2Write s wc.toNat) := rfl

theorem exec_lwrite (low : BitVec 11) (s : State) :
    exec (.lwrite low) s = settle s (longWrite16 s (low.extractLsb' 5 6).toNat) := rfl

theorem type2Write_none {s : State} (hs : s.synced = true) (hr : s.lastRegister = none) (n : Nat) :
    type2Write s n = .error (.raise .unexpectedWord s.position) := by
  rw [type2Write, inMode_right hs, hr]

/-- A Type-2 write is a long write to `last_register`. -/
theorem exec_t2write_target {s : State} {reg : RegId} (hs : s.synced = true) (hr : s.lastRegister = some reg)
    (wc : BitVec 27) : exec (.t2write wc) s = settle s (longWrite s 4 reg wc.toNat (s.position + 4)) := by
  rw [exec_t2write, type2Write, inMode_right hs, hr]

theorem longWrite16_noRegister {s : State} (hs : s.synced = true) {field : RegId} {stop : Stop}
    (hr : lw16Register s field = .error stop) : longWrite16 s field = .error stop := by
  rw [longWrite16, inMode_right hs, hr]

theorem lw16Register_target {s : State} {low : BitVec 11} {reg : RegId} {e : RegEntry} (h : LongTarget16 s low reg)
    (he : s.lookupReg reg = some e) : lw16Register s (low.extractLsb' 5 6).toNat = .ok reg := by
  rcases h with ⟨hsource, hr⟩ | ⟨hsource, rfl⟩
  · rw [lw16Register, hsource, hr]
  · rw [lw16Register, hsource, he]

section
variable {s : State} {low : BitVec 11} {reg : RegId} {e : RegEntry} (hs : s.synced = true) (ht : LongTarget16 s low reg)
  (he : s.lookupReg reg = some e)
include hs ht he

theorem longWrite16_lengthCut (hl : s.buf.len < s.position + 6) :
    longWrite16 s (low.extractLsb' 5 6).toNat = .error (.raise .truncated s.position) := by
  rw [longWrite16, inMode_right hs, lw16Register_target ht he, readWord_cut (by omega)]

/-- A 16-bit long write is a long write of the length in the word after its header. -/
theorem exec_lwrite_target (hl : s.position + 6 ≤ s.buf.len) :
    exec (.lwrite low) s =
      settle s (longWrite s 2 reg (s.buf.read (s.position + 2) 4).toNat (s.position + 6)) := by
  rw [exec_lwrite, longWrite16, inMode_right hs, lw16Register_target ht he, readWord_ok (by omega)]

end

/-! ### The statements on long writes -/

/-- Settles O41: a Type-2 write is a long write without an auto-checksum word here. -/
theorem type2WriteUsesTheLastRegister : Obligations.Type2WriteUsesTheLastRegister := by
  intro wc s reg e pkt n hs hr he hv ha hl hp
  rw [exec_t2write_target hs hr, settle_longWrite_plain he hv hl ha hp]

/-- Settles O42: a 16-bit long write is a long write without an auto-checksum word here. -/
theorem longWrite16TakesItsLengthWord : Obligations.LongWrite16TakesItsLengthWord := by
  intro low s reg e pkt n hs ht he hv ha hl hp
  rw [exec_lwrite_target hs ht he (by omega), settle_longWrite_plain he hv hl ha hp]

/-- Settles O43: both are long writes with an auto-checksum word. -/
theorem autoChecksumResetsOnlyOnAMatch : Obligations.AutoChecksumResetsOnlyOnAMatch := by
  refine ⟨fun wc s reg e hs hr he hv ht ha hl => ?_, fun low s reg e hs htarget he hv ht ha hl => ?_⟩
  · rw [exec_t2write_target hs hr, settle_longWrite_checked he hv ht ha hl]
  · rw [exec_lwrite_target hs htarget he (by omega), settle_longWrite_checked he hv ht ha hl]

theorem settledBody_crc_mismatch {s : State} {wb n : Nat} {e : RegEntry} (hw : wb = 4 ∨ wb = 2) (ht : e.tag = .crc)
    (hn : ¬ wrongCount e.card n) (hc : e.card ≠ .var)
    (hvalue : writtenValue s.buf wb n (s.position + wb) = .bits32 (s.buf.read (s.position + wb) 4))
    (hne : s.buf.read (s.position + wb) 4 ≠ s.checksum) :
    settledBody s wb e n =
      .next (s.wrote e.id (wb + n * wb) s.checksum (.crc (.bits32 (s.buf.read (s.position + wb) 4)))
        [⟨s.position + wb, .bits32 (s.buf.read (s.position + wb) 4), s.checksum, false⟩]) := by
  rw [settledBody_crc hw hn ht hc, fedLong_crc ht, comparisons_crc ht, hvalue, crcCheck_bits32, beq_false_of_ne hne]

/-- Settles O44: the Crc rule of Type-1 writes and the checked long write, each where the values differ. -/
theorem checksumMismatchIsNoError : Obligations.ChecksumMismatchIsNoError := by
  refine ⟨fun reg ignored s e hs he ht hc hl hne => ?_, fun reg s e hs he ht hc hl hne => ?_,
    fun wc s reg e hs hr he hv ht ha hl hne => ?_, fun low s reg e hs htarget he hv ht ha hl hne => ?_⟩
  · have hid : e.id = reg.toNat := (findReg_eq_some he).2
    rw [exec_t1write32, type1Write_known hs hl he, ← hid]
    exact settledBody_crc_mismatch (.inl rfl) ht (by simp [wrongCount, hc]) (by simp [hc]) rfl hne
  · have hid : e.id = reg.toNat := (findReg_eq_some he).2
    rw [exec_t1write16, type1Write_known hs hl he, ← hid]
    exact settledBody_crc_mismatch (.inr rfl) ht (by simp [wrongCount, hc]) (by simp [hc]) rfl hne
  · rw [exec_t2write_target hs hr, settle_longWrite_checked he hv ht ha (by omega), wroteChecked_mismatch hne]
  · rw [exec_lwrite_target hs htarget he (by omega), settle_longWrite_checked he hv ht ha (by omega),
      wroteChecked_mismatch hne]

/-- The errors of R169 that the body of a long write raises, in their order; `p` is where its data stand. -/
theorem longWrite_errors {s : State} {wb n p : Nat} {reg : RegId} {e : RegEntry} {i : Instr}
    (hexec : exec i s = settle s (longWrite s wb reg n p)) (he : s.lookupReg reg = some e) :
    (s.buf.len < p + n * wb → exec i s = .next (s.errored .truncated s.position)) ∧
    (p + n * wb ≤ s.buf.len → e.card ≠ .var → exec i s = .next (s.errored .unexpectedWordCount s.position)) ∧
    (p + n * wb ≤ s.buf.len → e.card = .var → e.tag = .mfwr → ¬ zeroBytes s.buf p (p + n * wb) →
      exec i s = .next (s.errored .malformedPadding s.position)) ∧
    (p + n * wb ≤ s.buf.len → e.card = .var → e.tag = .fdri → s.autoCrc = true → s.buf.len < p + n * wb + 4 →
      exec i s = .next (s.errored .truncated s.position)) := by
  rw [hexec]
  refine ⟨fun hl => ?_, fun hl hv => ?_, fun hl hv ht hz => ?_, fun hl hv ht ha hcut => ?_⟩
  · rw [longWrite_cut hl]
    rfl
  · rw [longWrite_fixed hl he hv]
    rfl
  · rw [longWrite_nonzero hl he hv ht hz]
    rfl
  · rw [longWrite_check_cut he hv ht ha hl hcut]
    rfl

/-- Settles O45: the register, then the length word, then the errors of the long write's body. -/
theorem longWriteErrorsComeInOrder : Obligations.LongWriteErrorsComeInOrder := by
  refine ⟨fun wc s hs => ⟨fun hr => ?_, fun reg e hr he => longWrite_errors (exec_t2write_target hs hr wc) he⟩,
    fun low s hs => ⟨fun hsource hr => ?_, fun hsource hr => ?_, fun reg e ht he => ⟨fun hl => ?_, ?_⟩⟩⟩
  · rw [exec_t2write, type2Write_none hs hr]
    rfl
  · rw [exec_lwrite, longWrite16_noRegister hs (by rw [lw16Register, hsource, hr])]
    rfl
  · rw [exec_lwrite, longWrite16_noRegister hs (by rw [lw16Register, hsource, hr])]
    rfl
  · rw [exec_lwrite, longWrite16_lengthCut hs ht he hl]
    rfl
  · have herrors : s.position + 6 ≤ s.buf.len → _ := fun hl => longWrite_errors (exec_lwrite_target hs ht he hl) he
    refine ⟨fun hl hcut => ?_, fun hl => ?_, fun hl => ?_, fun hl => ?_⟩ <;>
      obtain ⟨hdata, hcard, hpadding, hcheck⟩ := herrors (by omega)
    · exact hdata hcut
    · exact hcard hl
    · exact hpadding hl
    · exact hcheck hl

/-! ### The BugFdri run (R174) -/

/-- The words counted are the run's, whatever else the fuel would allow. -/
theorem zeroWords_eq {m : Memory} {n pos fuel : Nat} (hfuel : n ≤ fuel)
    (hrun : ∀ i, i < n → pos + 4 * i + 4 ≤ m.len ∧ m.read (pos + 4 * i) 4 = 0)
    (hend : pos + 4 * n + 4 ≤ m.len → m.read (pos + 4 * n) 4 ≠ 0) : zeroWords m pos fuel = n := by
  induction fuel generalizing n pos with
  | zero => rw [zeroWords, Nat.le_zero.mp hfuel]
  | succ fuel ih =>
    cases n with
    | zero =>
      have hstop : ¬ peekWord m pos 4 = some 0 := fun h => by
        obtain ⟨hl, hz⟩ := peekWord_eq_some.mp h
        exact hend hl hz.symm
      rw [zeroWords, if_neg hstop]
    | succ n =>
      obtain ⟨hl, hz⟩ : pos + 4 ≤ m.len ∧ m.read pos 4 = 0 := hrun 0 (Nat.succ_pos n)
      have hshift : ∀ i, pos + 4 * (i + 1) = pos + 4 + 4 * i := fun i => by omega
      have hrest : zeroWords m (pos + 4) fuel = n := by
        refine ih (by omega) (fun i hi => ?_) fun hl => ?_
        · simpa only [hshift] using hrun (i + 1) (by omega)
        · simpa only [hshift] using hend (by omega)
      rw [zeroWords, if_pos (peekWord_eq_some.mpr ⟨hl, hz.symm⟩), hrest]

theorem bugFdriRun_eq {s : State} {n : Nat} (h : ZeroRun s n) : bugFdriRun s = n := by
  obtain ⟨hpos, hrun, hend⟩ := h
  obtain ⟨k, rfl⟩ := Nat.exists_eq_succ_of_ne_zero (Nat.ne_of_gt hpos)
  have hshift : ∀ i, s.position + 4 * (i + 1) = s.position + 4 + 4 * i := fun i => by omega
  have hfuel : k ≤ s.buf.len := by
    rcases Nat.eq_zero_or_pos k with rfl | hk
    · exact Nat.zero_le _
    · have hlast := (hrun k hk (Nat.lt_succ_self k)).1
      omega
  have hwords : zeroWords s.buf (s.position + 4) s.buf.len = k := by
    refine zeroWords_eq hfuel (fun i hi => ?_) fun hl => ?_
    · simpa only [hshift] using hrun (i + 1) (Nat.succ_pos i) (by omega)
    · simpa only [Nat.succ_eq_add_one, hshift] using hend (by omega)
  rw [bugFdriRun, hwords, Nat.add_comm]

/-- A BugFdri run commits its window and feeds its zero words to its register. -/
theorem exec_bugFdri_run {s : State} {n : Nat} (hs : s.synced = true) (hb : s.bugFdri = true) (hrun : ZeroRun s n) :
    exec .bugFdri s =
      .next (s.wroteLong (4 * n) (s.fedLong s.bugFdriEntry s.bugFdriEntry.id (List.replicate n 0))
        (.bugFdri ⟨s.position, 4 * n⟩) []) := by
  have hyield : bugFdriWrite s = .ok (bugYield s) := by
    rw [bugFdriWrite, inMode_right hs, if_pos hb]
    rfl
  rw [exec_bugFdri, hyield, settle_ok, State.commit, bugYield, bugFdriRun_eq hrun, absorb_eq_fedLong, State.wroteLong]

/-- Where the table has no one Fdri entry, the register is the free id with the entry the table gives it (log entry 28). -/
theorem bugFdriEntry_none {s : State} (h : s.cfg.fdriEntry s.kind = none) :
    let f := (unstatedFdriId s.kind (s.cfg.regTable.get s.kind)).toNat
    s.bugFdriEntry = (s.lookupReg f).getD ⟨f, .fdri, .var⟩ ∧ s.bugFdriEntry.id = f := by
  intro f
  have hentry : s.bugFdriEntry = (s.lookupReg f).getD ⟨f, .fdri, .var⟩ := by
    rw [State.bugFdriEntry, h]
  refine ⟨hentry, ?_⟩
  rw [hentry]
  cases he : s.lookupReg f with
  | none => rfl
  | some e => exact (findReg_eq_some he).2

/-- Settles O46: the run's length, its register in both cases of the table, and the flag's test. -/
theorem bugFdriTakesTheWholeZeroRun : Obligations.BugFdriTakesTheWholeZeroRun := by
  refine ⟨fun s n e hs hb hentry hl hrun => ?_, fun s n hs hb hnone hl hrun => ?_, fun s hs hoff => ?_⟩
  · obtain ⟨he, htag⟩ := bugFdriEntry_some hentry
    rw [exec_bugFdri_run hs hb hrun, he, fedLong_other (by simp [htag])]
  · obtain ⟨he, hid⟩ := bugFdriEntry_none hnone
    rw [exec_bugFdri_run hs hb hrun, hid, he]
  · rw [exec_bugFdri, bugFdriWrite_off hoff, settle_raise]
    rfl

/-! ### The auto-checksum word on its own (log entry 14) -/

theorem exec_autoCrc (v : BitVec 32) (s : State) : exec (.autoCrc v) s = .next (autoWord s v) := rfl

theorem fdriPacketOffset_eq_some {s : State} {h : Nat} :
    fdriPacketOffset s = some h ↔ ∃ rs w evs, s.results = rs ++ [.packet (.fdri w) h evs] := by
  unfold fdriPacketOffset
  split
  · rename_i w at_ evs hlast
    obtain ⟨rs, hrs⟩ := List.getLast?_eq_some_iff.mp hlast
    constructor
    · rintro hat
      obtain rfl := Option.some.inj hat
      exact ⟨rs, w, evs, hrs⟩
    · rintro ⟨rs', w', evs', hrs'⟩
      rw [hrs', List.getLast?_concat] at hlast
      simp only [Option.some.injEq, StepResult.packet.injEq] at hlast
      rw [hlast.2.1]
  · rename_i hother
    simp only [reduceCtorEq, false_iff]
    rintro ⟨rs, w, evs, hrs⟩
    exact hother w h evs (by rw [hrs, List.getLast?_concat])

section
variable {s : State} {rs : List StepResult} {w : Window} {h : Nat} {evs : List CrcCheck} (ha : s.autoCrc = true)
  (hrs : s.results = rs ++ [.packet (.fdri w) h evs])
include ha hrs

theorem exec_autoCrc_joins (hl : s.position + 4 ≤ s.buf.len) (v : BitVec 32) :
    exec (.autoCrc v) s =
      .next
        { s with
          position := s.position + 4
          checksum := if v = s.checksum then 0 else s.checksum
          results := rs ++ [.packet (.fdri w) h (evs ++ [⟨s.position, .bits32 v, s.checksum, v == s.checksum⟩])] } := by
  have hoffset : fdriPacketOffset s = some h := fdriPacketOffset_eq_some.mpr ⟨rs, w, evs, hrs⟩
  rw [exec_autoCrc, autoWord, ha, hoffset]
  dsimp only
  rw [if_pos hl, hrs, attachEvent_append, crcCheck_bits32, afterAutoCheck]

theorem exec_autoCrc_cut (hl : s.buf.len < s.position + 4) (v : BitVec 32) :
    exec (.autoCrc v) s = .next (s.errored .truncated h) := by
  have hoffset : fdriPacketOffset s = some h := fdriPacketOffset_eq_some.mpr ⟨rs, w, evs, hrs⟩
  rw [exec_autoCrc, autoWord, ha, hoffset]
  dsimp only
  rw [if_neg (by omega)]
  rfl

end

theorem exec_autoCrc_elsewhere {s : State} (hno : s.autoCrc = false ∨ fdriPacketOffset s = none) (v : BitVec 32) :
    exec (.autoCrc v) s = .next (s.errored .unexpectedWord s.position) := by
  rw [exec_autoCrc, autoWord]
  split
  · rename_i h ha hoffset
    simp [ha, hoffset] at hno
  · rfl

/-- Settles O47: the last result is an Fdri packet, or there is none to join. -/
theorem autoCrcWordJoinsTheFdriPacket : Obligations.AutoCrcWordJoinsTheFdriPacket := by
  refine ⟨fun v s rs w h evs ha hrs => ⟨fun hl => exec_autoCrc_joins ha hrs hl v, fun hl => exec_autoCrc_cut ha hrs hl v⟩,
    fun v s hno => exec_autoCrc_elsewhere (hno.imp_right fun hother => ?_) v⟩
  refine Option.eq_none_iff_forall_ne_some.mpr fun h hoffset => ?_
  obtain ⟨rs, w, evs, hrs⟩ := fdriPacketOffset_eq_some.mp hoffset
  exact hother rs w h evs hrs

/-- AUTOCRC with the word after the data makes an unchecked long write to Fdri the checked one. -/
theorem exec_autoCrc_wroteLong {s : State} {used : Nat} (ha : s.autoCrc = true) (hl : s.position + used + 4 ≤ s.buf.len)
    (sum : BitVec 32) (w : Window) :
    exec (.autoCrc (s.buf.read (s.position + used) 4)) (s.wroteLong used sum (.fdri w) []) =
      .next (s.wroteChecked used sum (.fdri w)) :=
  exec_autoCrc_joins (s := s.wroteLong used sum (.fdri w) []) ha rfl hl _

/-- The session without auto-checksums. -/
def State.unchecked (s : State) : State := { s with cfg := { s.cfg with autoCrcKinds := [] } }

/-- A long write in the session without auto-checksums, continued by AUTOCRC in the session itself. -/
theorem longWrite_splits {s t : State} {wb n header : Nat} {reg : RegId} {e : RegEntry} (he : s.lookupReg reg = some e)
    (hv : e.card = .var) (ht : e.tag = .fdri) (ha : s.autoCrc = true)
    (hl : s.position + header + n * wb + 4 ≤ s.buf.len)
    (hplain : settle s.unchecked (longWrite s.unchecked wb reg n (s.position + header)) = .next t) :
    settle s (longWrite s wb reg n (s.position + header)) =
      exec (.autoCrc (s.buf.read t.position 4)) { t with cfg := s.cfg } := by
  have hoff : ¬ (s.unchecked.autoCrc = true ∧ e.tag = .fdri) := fun h => Bool.false_ne_true h.1
  have hrun := settle_longWrite_plain (s := s.unchecked) (header := header) (n := n) (wb := wb) he hv
    (show s.position + header + n * wb ≤ s.buf.len by omega) hoff (.inl ⟨ht, rfl⟩)
  obtain rfl := Host.Outcome.next.inj (hplain.symm.trans hrun)
  rw [settle_longWrite_checked he hv ht ha hl]
  exact (exec_autoCrc_wroteLong ha (by omega) _ _).symm

/-- Settles O48: both long writes split, each in its width. -/
theorem autoChecksumSplitsOffTheLongWrite : Obligations.AutoChecksumSplitsOffTheLongWrite := by
  refine ⟨fun wc s t reg e hs hr he hv ht ha hl hplain => ?_, fun low s t reg e hs htarget he hv ht ha hl hplain => ?_⟩
  · have hunchecked := exec_t2write_target (s := s.unchecked) hs hr wc
    rw [exec_t2write_target hs hr]
    exact longWrite_splits he hv ht ha hl (hunchecked.symm.trans hplain)
  · have hunchecked := exec_lwrite_target (s := s.unchecked) hs htarget he (show s.position + 6 ≤ s.buf.len by omega)
    rw [exec_lwrite_target hs htarget he (by omega)]
    exact longWrite_splits he hv ht ha hl (hunchecked.symm.trans hplain)

end Sys2Proof.Machine
